-- ==== Sys2Proof/Word.lean ====
section
/-! DEFINITION. The widths of the datapath: words, bytes and register indices (00_scope.md R6, R7; 10_state.md R17). -/

namespace Sys2Proof

/-- A datapath value: 32 bits, `XLEN` (R6, R7). `+` and `-` on it are modulo 2^32. -/
abbrev Word := BitVec 32

/-- One byte of instruction or data memory (R25, R26). -/
abbrev Byte := BitVec 8

/-- A register index: a 5-bit field of the instruction word, so an index outside [0, 31] cannot occur (R17). -/
abbrev RegIdx := BitVec 5

end Sys2Proof
end

