-- ==== Sys2Proof/Syntax.lean ====
section
/-! DEFINITION. The instructions: one constructor per row of spec/opcode_table.json (30_encoding.md R71), and the
instruction formats (00_scope.md R12, 30_encoding.md R54). A constructor holds the operands of its row; the bits no
block interprets (R52) are not part of an instruction. -/

namespace Sys2Proof

/-- The closed variant of instruction formats (R12, R54). `J` is the source's format of JALR, not the RISC-V one. -/
inductive Format
  | R | I | S | B | U | J | Unknown
  deriving DecidableEq, Repr

/-- Every instruction word selects exactly one of these rows (R71). Register fields are 5-bit indices (R17);
immediates keep the width of their encoding: 12 bits (R57, R58), 13 bits for a branch offset (R59), 20 bits (R60). -/
inductive Instr
  -- R format, opcode 0110011 (41_register_register.md).
  /-- `ADD` (R88). -/
  | add (rd rs1 rs2 : RegIdx)
  /-- `SUB` (R89). -/
  | sub (rd rs1 rs2 : RegIdx)
  /-- `SLL encoding (R-type funct3 001, writes 0)` (R93). -/
  | sllEncoding (rd rs1 rs2 : RegIdx)
  /-- `SLT encoding (R-type funct3 010, writes 0)` (R93). -/
  | sltEncoding (rd rs1 rs2 : RegIdx)
  /-- `SLTU encoding (R-type funct3 011, writes 0)` (R93). -/
  | sltuEncoding (rd rs1 rs2 : RegIdx)
  /-- `XOR encoding (R-type funct3 100, writes 0)` (R93). -/
  | xorEncoding (rd rs1 rs2 : RegIdx)
  /-- `SRA` (R92). -/
  | sra (rd rs1 rs2 : RegIdx)
  /-- `OR` (R91). -/
  | or (rd rs1 rs2 : RegIdx)
  /-- `AND` (R90). -/
  | and (rd rs1 rs2 : RegIdx)
  -- I format, opcode 0010011 (42_register_immediate.md).
  /-- `ADDI` (R94). -/
  | addi (rd rs1 : RegIdx) (imm : BitVec 12)
  /-- `SLLI encoding (I-type funct3 001, writes 0)` (R97). -/
  | slliEncoding (rd rs1 : RegIdx) (imm : BitVec 12)
  /-- `SLTI encoding (I-type funct3 010, writes 0)` (R97). -/
  | sltiEncoding (rd rs1 : RegIdx) (imm : BitVec 12)
  /-- `SLTIU` (R96). -/
  | sltiu (rd rs1 : RegIdx) (imm : BitVec 12)
  /-- `XORI encoding (I-type funct3 100, writes 0)` (R97). -/
  | xoriEncoding (rd rs1 : RegIdx) (imm : BitVec 12)
  /-- `SRLI/SRAI encoding (I-type funct3 101, writes 0)` (R97). -/
  | srliSraiEncoding (rd rs1 : RegIdx) (imm : BitVec 12)
  /-- `ORI` (R95). -/
  | ori (rd rs1 : RegIdx) (imm : BitVec 12)
  /-- `ANDI encoding (I-type funct3 111, writes 0)` (R97). -/
  | andiEncoding (rd rs1 : RegIdx) (imm : BitVec 12)
  -- I format, opcode 0000011: loads (43_load_store.md).
  /-- `LB encoding (reads 1 byte, zero-extended)` (R100). -/
  | lbEncoding (rd rs1 : RegIdx) (imm : BitVec 12)
  /-- `LH encoding (reads 1 byte, zero-extended)` (R100). -/
  | lhEncoding (rd rs1 : RegIdx) (imm : BitVec 12)
  /-- `LW` (R98). -/
  | lw (rd rs1 : RegIdx) (imm : BitVec 12)
  /-- `load funct3 011 (reads 1 byte, zero-extended)` (R100). -/
  | loadFunct3_011 (rd rs1 : RegIdx) (imm : BitVec 12)
  /-- `LBU` (R99). -/
  | lbu (rd rs1 : RegIdx) (imm : BitVec 12)
  /-- `LHU encoding (reads 1 byte, zero-extended)` (R100). -/
  | lhuEncoding (rd rs1 : RegIdx) (imm : BitVec 12)
  /-- `load funct3 110 (reads 1 byte, zero-extended)` (R100). -/
  | loadFunct3_110 (rd rs1 : RegIdx) (imm : BitVec 12)
  /-- `load funct3 111 (reads 1 byte, zero-extended)` (R100). -/
  | loadFunct3_111 (rd rs1 : RegIdx) (imm : BitVec 12)
  -- S format, opcode 0100011: stores (43_load_store.md).
  /-- `SB encoding (writes 2 bytes)` (R103). -/
  | sbEncoding (rs2 rs1 : RegIdx) (imm : BitVec 12)
  /-- `SH` (R102). -/
  | sh (rs2 rs1 : RegIdx) (imm : BitVec 12)
  /-- `SW` (R101). -/
  | sw (rs2 rs1 : RegIdx) (imm : BitVec 12)
  /-- `store funct3 011 (writes 2 bytes)` (R103). -/
  | storeFunct3_011 (rs2 rs1 : RegIdx) (imm : BitVec 12)
  /-- `store funct3 100 (writes 2 bytes)` (R103). -/
  | storeFunct3_100 (rs2 rs1 : RegIdx) (imm : BitVec 12)
  /-- `store funct3 101 (writes 2 bytes)` (R103). -/
  | storeFunct3_101 (rs2 rs1 : RegIdx) (imm : BitVec 12)
  /-- `store funct3 110 (writes 2 bytes)` (R103). -/
  | storeFunct3_110 (rs2 rs1 : RegIdx) (imm : BitVec 12)
  /-- `store funct3 111 (writes 2 bytes)` (R103). -/
  | storeFunct3_111 (rs2 rs1 : RegIdx) (imm : BitVec 12)
  -- B format, opcode 1100011: branches (44_control_transfer.md). `offset` is the byte offset, even when well-formed.
  /-- `BEQ encoding (taken when operands differ)` (R105). -/
  | beqEncoding (rs1 rs2 : RegIdx) (offset : BitVec 13)
  /-- `BNE` (R104). -/
  | bne (rs1 rs2 : RegIdx) (offset : BitVec 13)
  /-- `branch funct3 010 (taken when operands differ)` (R105). -/
  | branchFunct3_010 (rs1 rs2 : RegIdx) (offset : BitVec 13)
  /-- `branch funct3 011 (taken when operands differ)` (R105). -/
  | branchFunct3_011 (rs1 rs2 : RegIdx) (offset : BitVec 13)
  /-- `BLT encoding (taken when operands differ)` (R105). -/
  | bltEncoding (rs1 rs2 : RegIdx) (offset : BitVec 13)
  /-- `BGE encoding (taken when operands differ)` (R105). -/
  | bgeEncoding (rs1 rs2 : RegIdx) (offset : BitVec 13)
  /-- `BLTU encoding (taken when operands differ)` (R105). -/
  | bltuEncoding (rs1 rs2 : RegIdx) (offset : BitVec 13)
  /-- `BGEU encoding (taken when operands differ)` (R105). -/
  | bgeuEncoding (rs1 rs2 : RegIdx) (offset : BitVec 13)
  -- The source's J format, opcode 1100111 (44_control_transfer.md).
  /-- `JALR` (R106). -/
  | jalr (rd rs1 : RegIdx) (imm : BitVec 12)
  -- U format, opcode 0110111 (45_upper_immediate.md).
  /-- `LUI` (R107). -/
  | lui (rd : RegIdx) (imm20 : BitVec 20)
  -- Format Unknown: the other 121 opcode values, each a no-op with no operands (46_unrecognised.md R108).
  /-- Unknown opcode 0000000 (all-zero opcode (driver halt trigger) encoding) (no-op) (R108). -/
  | unknown0000000
  /-- Unknown opcode 0000001 (no-op) (R108). -/
  | unknown0000001
  /-- Unknown opcode 0000010 (no-op) (R108). -/
  | unknown0000010
  /-- Unknown opcode 0000100 (no-op) (R108). -/
  | unknown0000100
  /-- Unknown opcode 0000101 (no-op) (R108). -/
  | unknown0000101
  /-- Unknown opcode 0000110 (no-op) (R108). -/
  | unknown0000110
  /-- Unknown opcode 0000111 (LOAD-FP encoding) (no-op) (R108). -/
  | unknown0000111
  /-- Unknown opcode 0001000 (no-op) (R108). -/
  | unknown0001000
  /-- Unknown opcode 0001001 (no-op) (R108). -/
  | unknown0001001
  /-- Unknown opcode 0001010 (no-op) (R108). -/
  | unknown0001010
  /-- Unknown opcode 0001011 (custom-0 encoding) (no-op) (R108). -/
  | unknown0001011
  /-- Unknown opcode 0001100 (no-op) (R108). -/
  | unknown0001100
  /-- Unknown opcode 0001101 (no-op) (R108). -/
  | unknown0001101
  /-- Unknown opcode 0001110 (no-op) (R108). -/
  | unknown0001110
  /-- Unknown opcode 0001111 (FENCE/FENCE.I encoding) (no-op) (R108). -/
  | unknown0001111
  /-- Unknown opcode 0010000 (no-op) (R108). -/
  | unknown0010000
  /-- Unknown opcode 0010001 (no-op) (R108). -/
  | unknown0010001
  /-- Unknown opcode 0010010 (no-op) (R108). -/
  | unknown0010010
  /-- Unknown opcode 0010100 (no-op) (R108). -/
  | unknown0010100
  /-- Unknown opcode 0010101 (no-op) (R108). -/
  | unknown0010101
  /-- Unknown opcode 0010110 (no-op) (R108). -/
  | unknown0010110
  /-- Unknown opcode 0010111 (AUIPC encoding) (no-op) (R108). -/
  | unknown0010111
  /-- Unknown opcode 0011000 (no-op) (R108). -/
  | unknown0011000
  /-- Unknown opcode 0011001 (no-op) (R108). -/
  | unknown0011001
  /-- Unknown opcode 0011010 (no-op) (R108). -/
  | unknown0011010
  /-- Unknown opcode 0011011 (no-op) (R108). -/
  | unknown0011011
  /-- Unknown opcode 0011100 (no-op) (R108). -/
  | unknown0011100
  /-- Unknown opcode 0011101 (no-op) (R108). -/
  | unknown0011101
  /-- Unknown opcode 0011110 (no-op) (R108). -/
  | unknown0011110
  /-- Unknown opcode 0011111 (no-op) (R108). -/
  | unknown0011111
  /-- Unknown opcode 0100000 (no-op) (R108). -/
  | unknown0100000
  /-- Unknown opcode 0100001 (no-op) (R108). -/
  | unknown0100001
  /-- Unknown opcode 0100010 (no-op) (R108). -/
  | unknown0100010
  /-- Unknown opcode 0100100 (no-op) (R108). -/
  | unknown0100100
  /-- Unknown opcode 0100101 (no-op) (R108). -/
  | unknown0100101
  /-- Unknown opcode 0100110 (no-op) (R108). -/
  | unknown0100110
  /-- Unknown opcode 0100111 (STORE-FP encoding) (no-op) (R108). -/
  | unknown0100111
  /-- Unknown opcode 0101000 (no-op) (R108). -/
  | unknown0101000
  /-- Unknown opcode 0101001 (no-op) (R108). -/
  | unknown0101001
  /-- Unknown opcode 0101010 (no-op) (R108). -/
  | unknown0101010
  /-- Unknown opcode 0101011 (custom-1 encoding) (no-op) (R108). -/
  | unknown0101011
  /-- Unknown opcode 0101100 (no-op) (R108). -/
  | unknown0101100
  /-- Unknown opcode 0101101 (no-op) (R108). -/
  | unknown0101101
  /-- Unknown opcode 0101110 (no-op) (R108). -/
  | unknown0101110
  /-- Unknown opcode 0101111 (AMO encoding) (no-op) (R108). -/
  | unknown0101111
  /-- Unknown opcode 0110000 (no-op) (R108). -/
  | unknown0110000
  /-- Unknown opcode 0110001 (no-op) (R108). -/
  | unknown0110001
  /-- Unknown opcode 0110010 (no-op) (R108). -/
  | unknown0110010
  /-- Unknown opcode 0110100 (no-op) (R108). -/
  | unknown0110100
  /-- Unknown opcode 0110101 (no-op) (R108). -/
  | unknown0110101
  /-- Unknown opcode 0110110 (no-op) (R108). -/
  | unknown0110110
  /-- Unknown opcode 0111000 (no-op) (R108). -/
  | unknown0111000
  /-- Unknown opcode 0111001 (no-op) (R108). -/
  | unknown0111001
  /-- Unknown opcode 0111010 (no-op) (R108). -/
  | unknown0111010
  /-- Unknown opcode 0111011 (no-op) (R108). -/
  | unknown0111011
  /-- Unknown opcode 0111100 (no-op) (R108). -/
  | unknown0111100
  /-- Unknown opcode 0111101 (no-op) (R108). -/
  | unknown0111101
  /-- Unknown opcode 0111110 (no-op) (R108). -/
  | unknown0111110
  /-- Unknown opcode 0111111 (no-op) (R108). -/
  | unknown0111111
  /-- Unknown opcode 1000000 (no-op) (R108). -/
  | unknown1000000
  /-- Unknown opcode 1000001 (no-op) (R108). -/
  | unknown1000001
  /-- Unknown opcode 1000010 (no-op) (R108). -/
  | unknown1000010
  /-- Unknown opcode 1000011 (FMADD encoding) (no-op) (R108). -/
  | unknown1000011
  /-- Unknown opcode 1000100 (no-op) (R108). -/
  | unknown1000100
  /-- Unknown opcode 1000101 (no-op) (R108). -/
  | unknown1000101
  /-- Unknown opcode 1000110 (no-op) (R108). -/
  | unknown1000110
  /-- Unknown opcode 1000111 (FMSUB encoding) (no-op) (R108). -/
  | unknown1000111
  /-- Unknown opcode 1001000 (no-op) (R108). -/
  | unknown1001000
  /-- Unknown opcode 1001001 (no-op) (R108). -/
  | unknown1001001
  /-- Unknown opcode 1001010 (no-op) (R108). -/
  | unknown1001010
  /-- Unknown opcode 1001011 (FNMSUB encoding) (no-op) (R108). -/
  | unknown1001011
  /-- Unknown opcode 1001100 (no-op) (R108). -/
  | unknown1001100
  /-- Unknown opcode 1001101 (no-op) (R108). -/
  | unknown1001101
  /-- Unknown opcode 1001110 (no-op) (R108). -/
  | unknown1001110
  /-- Unknown opcode 1001111 (FNMADD encoding) (no-op) (R108). -/
  | unknown1001111
  /-- Unknown opcode 1010000 (no-op) (R108). -/
  | unknown1010000
  /-- Unknown opcode 1010001 (no-op) (R108). -/
  | unknown1010001
  /-- Unknown opcode 1010010 (no-op) (R108). -/
  | unknown1010010
  /-- Unknown opcode 1010011 (OP-FP encoding) (no-op) (R108). -/
  | unknown1010011
  /-- Unknown opcode 1010100 (no-op) (R108). -/
  | unknown1010100
  /-- Unknown opcode 1010101 (no-op) (R108). -/
  | unknown1010101
  /-- Unknown opcode 1010110 (no-op) (R108). -/
  | unknown1010110
  /-- Unknown opcode 1010111 (no-op) (R108). -/
  | unknown1010111
  /-- Unknown opcode 1011000 (no-op) (R108). -/
  | unknown1011000
  /-- Unknown opcode 1011001 (no-op) (R108). -/
  | unknown1011001
  /-- Unknown opcode 1011010 (no-op) (R108). -/
  | unknown1011010
  /-- Unknown opcode 1011011 (custom-2 encoding) (no-op) (R108). -/
  | unknown1011011
  /-- Unknown opcode 1011100 (no-op) (R108). -/
  | unknown1011100
  /-- Unknown opcode 1011101 (no-op) (R108). -/
  | unknown1011101
  /-- Unknown opcode 1011110 (no-op) (R108). -/
  | unknown1011110
  /-- Unknown opcode 1011111 (no-op) (R108). -/
  | unknown1011111
  /-- Unknown opcode 1100000 (no-op) (R108). -/
  | unknown1100000
  /-- Unknown opcode 1100001 (no-op) (R108). -/
  | unknown1100001
  /-- Unknown opcode 1100010 (no-op) (R108). -/
  | unknown1100010
  /-- Unknown opcode 1100100 (no-op) (R108). -/
  | unknown1100100
  /-- Unknown opcode 1100101 (no-op) (R108). -/
  | unknown1100101
  /-- Unknown opcode 1100110 (no-op) (R108). -/
  | unknown1100110
  /-- Unknown opcode 1101000 (no-op) (R108). -/
  | unknown1101000
  /-- Unknown opcode 1101001 (no-op) (R108). -/
  | unknown1101001
  /-- Unknown opcode 1101010 (no-op) (R108). -/
  | unknown1101010
  /-- Unknown opcode 1101011 (no-op) (R108). -/
  | unknown1101011
  /-- Unknown opcode 1101100 (no-op) (R108). -/
  | unknown1101100
  /-- Unknown opcode 1101101 (no-op) (R108). -/
  | unknown1101101
  /-- Unknown opcode 1101110 (no-op) (R108). -/
  | unknown1101110
  /-- Unknown opcode 1101111 (JAL encoding) (no-op) (R108). -/
  | unknown1101111
  /-- Unknown opcode 1110000 (no-op) (R108). -/
  | unknown1110000
  /-- Unknown opcode 1110001 (no-op) (R108). -/
  | unknown1110001
  /-- Unknown opcode 1110010 (no-op) (R108). -/
  | unknown1110010
  /-- Unknown opcode 1110011 (SYSTEM encoding) (no-op) (R108). -/
  | unknown1110011
  /-- Unknown opcode 1110100 (no-op) (R108). -/
  | unknown1110100
  /-- Unknown opcode 1110101 (no-op) (R108). -/
  | unknown1110101
  /-- Unknown opcode 1110110 (no-op) (R108). -/
  | unknown1110110
  /-- Unknown opcode 1110111 (no-op) (R108). -/
  | unknown1110111
  /-- Unknown opcode 1111000 (no-op) (R108). -/
  | unknown1111000
  /-- Unknown opcode 1111001 (no-op) (R108). -/
  | unknown1111001
  /-- Unknown opcode 1111010 (no-op) (R108). -/
  | unknown1111010
  /-- Unknown opcode 1111011 (custom-3 encoding) (no-op) (R108). -/
  | unknown1111011
  /-- Unknown opcode 1111100 (no-op) (R108). -/
  | unknown1111100
  /-- Unknown opcode 1111101 (no-op) (R108). -/
  | unknown1111101
  /-- Unknown opcode 1111110 (no-op) (R108). -/
  | unknown1111110
  /-- Unknown opcode 1111111 (no-op) (R108). -/
  | unknown1111111
  deriving DecidableEq, Repr

/-- The format of each instruction (R54). -/
def Instr.format : Instr → Format
  | .add _ _ _ | .sub _ _ _ | .sllEncoding _ _ _ | .sltEncoding _ _ _ | .sltuEncoding _ _ _
  | .xorEncoding _ _ _ | .sra _ _ _ | .or _ _ _ | .and _ _ _ => .R
  | .addi _ _ _ | .slliEncoding _ _ _ | .sltiEncoding _ _ _ | .sltiu _ _ _ | .xoriEncoding _ _ _
  | .srliSraiEncoding _ _ _ | .ori _ _ _ | .andiEncoding _ _ _ => .I
  | .lbEncoding _ _ _ | .lhEncoding _ _ _ | .lw _ _ _ | .loadFunct3_011 _ _ _ | .lbu _ _ _
  | .lhuEncoding _ _ _ | .loadFunct3_110 _ _ _ | .loadFunct3_111 _ _ _ => .I
  | .sbEncoding _ _ _ | .sh _ _ _ | .sw _ _ _ | .storeFunct3_011 _ _ _ | .storeFunct3_100 _ _ _
  | .storeFunct3_101 _ _ _ | .storeFunct3_110 _ _ _ | .storeFunct3_111 _ _ _ => .S
  | .beqEncoding _ _ _ | .bne _ _ _ | .branchFunct3_010 _ _ _ | .branchFunct3_011 _ _ _ | .bltEncoding _ _ _
  | .bgeEncoding _ _ _ | .bltuEncoding _ _ _ | .bgeuEncoding _ _ _ => .B
  | .jalr _ _ _ => .J
  | .lui _ _ => .U
  | .unknown0000000 | .unknown0000001 | .unknown0000010 | .unknown0000100 | .unknown0000101 | .unknown0000110
  | .unknown0000111 | .unknown0001000 | .unknown0001001 | .unknown0001010 | .unknown0001011 | .unknown0001100
  | .unknown0001101 | .unknown0001110 | .unknown0001111 | .unknown0010000 | .unknown0010001 | .unknown0010010
  | .unknown0010100 | .unknown0010101 | .unknown0010110 | .unknown0010111 | .unknown0011000 | .unknown0011001
  | .unknown0011010 | .unknown0011011 | .unknown0011100 | .unknown0011101 | .unknown0011110 | .unknown0011111
  | .unknown0100000 | .unknown0100001 | .unknown0100010 | .unknown0100100 | .unknown0100101 | .unknown0100110
  | .unknown0100111 | .unknown0101000 | .unknown0101001 | .unknown0101010 | .unknown0101011 | .unknown0101100
  | .unknown0101101 | .unknown0101110 | .unknown0101111 | .unknown0110000 | .unknown0110001 | .unknown0110010
  | .unknown0110100 | .unknown0110101 | .unknown0110110 | .unknown0111000 | .unknown0111001 | .unknown0111010
  | .unknown0111011 | .unknown0111100 | .unknown0111101 | .unknown0111110 | .unknown0111111 | .unknown1000000
  | .unknown1000001 | .unknown1000010 | .unknown1000011 | .unknown1000100 | .unknown1000101 | .unknown1000110
  | .unknown1000111 | .unknown1001000 | .unknown1001001 | .unknown1001010 | .unknown1001011 | .unknown1001100
  | .unknown1001101 | .unknown1001110 | .unknown1001111 | .unknown1010000 | .unknown1010001 | .unknown1010010
  | .unknown1010011 | .unknown1010100 | .unknown1010101 | .unknown1010110 | .unknown1010111 | .unknown1011000
  | .unknown1011001 | .unknown1011010 | .unknown1011011 | .unknown1011100 | .unknown1011101 | .unknown1011110
  | .unknown1011111 | .unknown1100000 | .unknown1100001 | .unknown1100010 | .unknown1100100 | .unknown1100101
  | .unknown1100110 | .unknown1101000 | .unknown1101001 | .unknown1101010 | .unknown1101011 | .unknown1101100
  | .unknown1101101 | .unknown1101110 | .unknown1101111 | .unknown1110000 | .unknown1110001 | .unknown1110010
  | .unknown1110011 | .unknown1110100 | .unknown1110101 | .unknown1110110 | .unknown1110111 | .unknown1111000
  | .unknown1111001 | .unknown1111010 | .unknown1111011 | .unknown1111100 | .unknown1111101 | .unknown1111110
  | .unknown1111111 => .Unknown

end Sys2Proof
end

