-- ==== Sys2Proof/WellFormed.lean ====
section
/-! DEFINITION. When a term of `Instr` is an instruction. Register fields and 12- and 20-bit immediates admit every value
of their type; the one further demand is that a branch offset is even (30_encoding.md R59, R74). -/

namespace Sys2Proof

/-- Bit 0 of a B-format immediate is forced to 0 (R59): "branch targets are even". -/
def evenOffset (offset : BitVec 13) : Bool := !offset[0]

/-- The well-formedness check: branch offsets are even, and nothing else is demanded. -/
def Instr.wf : Instr → Bool
  | .beqEncoding _ _ offset => evenOffset offset
  | .bne _ _ offset => evenOffset offset
  | .branchFunct3_010 _ _ offset => evenOffset offset
  | .branchFunct3_011 _ _ offset => evenOffset offset
  | .bltEncoding _ _ offset => evenOffset offset
  | .bgeEncoding _ _ offset => evenOffset offset
  | .bltuEncoding _ _ offset => evenOffset offset
  | .bgeuEncoding _ _ offset => evenOffset offset
  | .add _ _ _ | .sub _ _ _ | .sllEncoding _ _ _ | .sltEncoding _ _ _ | .sltuEncoding _ _ _ | .xorEncoding _ _ _
  | .sra _ _ _ | .or _ _ _ | .and _ _ _
  | .addi _ _ _ | .slliEncoding _ _ _ | .sltiEncoding _ _ _ | .sltiu _ _ _ | .xoriEncoding _ _ _ | .srliSraiEncoding _ _ _
  | .ori _ _ _ | .andiEncoding _ _ _
  | .lbEncoding _ _ _ | .lhEncoding _ _ _ | .lw _ _ _ | .loadFunct3_011 _ _ _ | .lbu _ _ _ | .lhuEncoding _ _ _
  | .loadFunct3_110 _ _ _ | .loadFunct3_111 _ _ _
  | .sbEncoding _ _ _ | .sh _ _ _ | .sw _ _ _ | .storeFunct3_011 _ _ _ | .storeFunct3_100 _ _ _ | .storeFunct3_101 _ _ _
  | .storeFunct3_110 _ _ _ | .storeFunct3_111 _ _ _
  | .jalr _ _ _
  | .lui _ _
  | .unknown0000000 | .unknown0000001 | .unknown0000010 | .unknown0000100 | .unknown0000101 | .unknown0000110
  | .unknown0000111 | .unknown0001000 | .unknown0001001 | .unknown0001010 | .unknown0001011 | .unknown0001100
  | .unknown0001101 | .unknown0001110 | .unknown0001111 | .unknown0010000 | .unknown0010001 | .unknown0010010
  | .unknown0010100 | .unknown0010101 | .unknown0010110 | .unknown0010111 | .unknown0011000 | .unknown0011001
  | .unknown0011010 | .unknown0011011 | .unknown0011100 | .unknown0011101 | .unknown0011110 | .unknown0011111
  | .unknown0100000 | .unknown0100001 | .unknown0100010 | .unknown0100100 | .unknown0100101 | .unknown0100110
  | .unknown0100111 | .unknown0101000 | .unknown0101001 | .unknown0101010 | .unknown0101011 | .unknown0101100
  | .unknown0101101 | .unknown0101110 | .unknown0101111 | .unknown0110000 | .unknown0110001 | .unknown0110010
  | .unknown0110100 | .unknown0110101 | .unknown0110110 | .unknown0111000 | .unknown0111001 | .unknown0111010
  | .unknown0111011 | .unknown0111100 | .unknown0111101 | .unknown0111110 | .unknown0111111 | .unknown1000000
  | .unknown1000001 | .unknown1000010 | .unknown1000011 | .unknown1000100 | .unknown1000101 | .unknown1000110
  | .unknown1000111 | .unknown1001000 | .unknown1001001 | .unknown1001010 | .unknown1001011 | .unknown1001100
  | .unknown1001101 | .unknown1001110 | .unknown1001111 | .unknown1010000 | .unknown1010001 | .unknown1010010
  | .unknown1010011 | .unknown1010100 | .unknown1010101 | .unknown1010110 | .unknown1010111 | .unknown1011000
  | .unknown1011001 | .unknown1011010 | .unknown1011011 | .unknown1011100 | .unknown1011101 | .unknown1011110
  | .unknown1011111 | .unknown1100000 | .unknown1100001 | .unknown1100010 | .unknown1100100 | .unknown1100101
  | .unknown1100110 | .unknown1101000 | .unknown1101001 | .unknown1101010 | .unknown1101011 | .unknown1101100
  | .unknown1101101 | .unknown1101110 | .unknown1101111 | .unknown1110000 | .unknown1110001 | .unknown1110010
  | .unknown1110011 | .unknown1110100 | .unknown1110101 | .unknown1110110 | .unknown1110111 | .unknown1111000
  | .unknown1111001 | .unknown1111010 | .unknown1111011 | .unknown1111100 | .unknown1111101 | .unknown1111110
  | .unknown1111111 => true

end Sys2Proof
end

