-- ==== Sys2Proof/Decode.lean ====
section
/-! DEFINITION. Decoding and encoding (30_encoding.md). Decoding is total on 32-bit words (R55, R72: no word is illegal);
a byte sequence shorter than one instruction is rejected by name. -/

namespace Sys2Proof

/-! ### Field extraction (R51): every field is extracted from every word whatever its format. -/

/-- `opcode = w[6:0]` (R51). -/
def opcodeField (w : Word) : BitVec 7 := w.extractLsb' 0 7
/-- `rd = w[11:7]` (R51). -/
def rdField (w : Word) : RegIdx := w.extractLsb' 7 5
/-- `funct3 = w[14:12]` (R51). -/
def funct3Field (w : Word) : BitVec 3 := w.extractLsb' 12 3
/-- `rs1 = w[19:15]` (R51). -/
def rs1Field (w : Word) : RegIdx := w.extractLsb' 15 5
/-- `rs2 = w[24:20]` (R51). -/
def rs2Field (w : Word) : RegIdx := w.extractLsb' 20 5
/-- `f7b30 = w[30]`, the only funct7 bit the decoder extracts (R51). -/
def funct7Bit (w : Word) : Bool := w[30]

/-! ### Immediate fields (R57 to R60), at the width of their encoding. -/

/-- I and J formats: `imm[11:0] = w[31:20]` (R57). -/
def immIField (w : Word) : BitVec 12 := w.extractLsb' 20 12
/-- S format: `w[31:25] ++ w[11:7]` (R58). -/
def immSField (w : Word) : BitVec 12 := w.extractLsb' 25 7 ++ w.extractLsb' 7 5
/-- B format: `w[31] ++ w[7] ++ w[30:25] ++ w[11:8] ++ 0` (R59). -/
def immBField (w : Word) : BitVec 13 :=
  w.extractLsb' 31 1 ++ w.extractLsb' 7 1 ++ w.extractLsb' 25 6 ++ w.extractLsb' 8 4 ++ 0#1
/-- U format: `imm[31:12] = w[31:12]` (R60). -/
def immUField (w : Word) : BitVec 20 := w.extractLsb' 12 20

/-- Format classification: a fixed, total table of the opcode alone, defaulting to Unknown (R54, R55). -/
def Format.ofOpcode (op : BitVec 7) : Format :=
  if op = 0b0110011#7 then .R
  else if op = 0b0010011#7 || op = 0b0000011#7 then .I
  else if op = 0b0100011#7 then .S
  else if op = 0b1100011#7 then .B
  else if op = 0b0110111#7 then .U
  else if op = 0b1100111#7 then .J
  else .Unknown

/-! ### Row selection (R71): by opcode, then funct3, then bit 30 where the row fixes it. The bits are matched one by one,
so that no arm is a default. -/

/-- Rows of opcode 0110011: funct3, and for funct3 000 also bit 30 (R71). -/
def decodeR (w : Word) : Instr :=
  match (funct3Field w)[2], (funct3Field w)[1], (funct3Field w)[0] with
  | false, false, false => if funct7Bit w then .sub (rdField w) (rs1Field w) (rs2Field w) else .add (rdField w) (rs1Field w) (rs2Field w)
  | false, false, true => .sllEncoding (rdField w) (rs1Field w) (rs2Field w)
  | false, true, false => .sltEncoding (rdField w) (rs1Field w) (rs2Field w)
  | false, true, true => .sltuEncoding (rdField w) (rs1Field w) (rs2Field w)
  | true, false, false => .xorEncoding (rdField w) (rs1Field w) (rs2Field w)
  | true, false, true => .sra (rdField w) (rs1Field w) (rs2Field w)
  | true, true, false => .or (rdField w) (rs1Field w) (rs2Field w)
  | true, true, true => .and (rdField w) (rs1Field w) (rs2Field w)

/-- Rows of opcode 0010011: funct3 alone; the funct7 bit does not enter (R69, R71). -/
def decodeI (w : Word) : Instr :=
  match (funct3Field w)[2], (funct3Field w)[1], (funct3Field w)[0] with
  | false, false, false => .addi (rdField w) (rs1Field w) (immIField w)
  | false, false, true => .slliEncoding (rdField w) (rs1Field w) (immIField w)
  | false, true, false => .sltiEncoding (rdField w) (rs1Field w) (immIField w)
  | false, true, true => .sltiu (rdField w) (rs1Field w) (immIField w)
  | true, false, false => .xoriEncoding (rdField w) (rs1Field w) (immIField w)
  | true, false, true => .srliSraiEncoding (rdField w) (rs1Field w) (immIField w)
  | true, true, false => .ori (rdField w) (rs1Field w) (immIField w)
  | true, true, true => .andiEncoding (rdField w) (rs1Field w) (immIField w)

/-- Rows of opcode 0000011 (R71). -/
def decodeLoad (w : Word) : Instr :=
  match (funct3Field w)[2], (funct3Field w)[1], (funct3Field w)[0] with
  | false, false, false => .lbEncoding (rdField w) (rs1Field w) (immIField w)
  | false, false, true => .lhEncoding (rdField w) (rs1Field w) (immIField w)
  | false, true, false => .lw (rdField w) (rs1Field w) (immIField w)
  | false, true, true => .loadFunct3_011 (rdField w) (rs1Field w) (immIField w)
  | true, false, false => .lbu (rdField w) (rs1Field w) (immIField w)
  | true, false, true => .lhuEncoding (rdField w) (rs1Field w) (immIField w)
  | true, true, false => .loadFunct3_110 (rdField w) (rs1Field w) (immIField w)
  | true, true, true => .loadFunct3_111 (rdField w) (rs1Field w) (immIField w)

/-- Rows of opcode 0100011 (R71). -/
def decodeStore (w : Word) : Instr :=
  match (funct3Field w)[2], (funct3Field w)[1], (funct3Field w)[0] with
  | false, false, false => .sbEncoding (rs2Field w) (rs1Field w) (immSField w)
  | false, false, true => .sh (rs2Field w) (rs1Field w) (immSField w)
  | false, true, false => .sw (rs2Field w) (rs1Field w) (immSField w)
  | false, true, true => .storeFunct3_011 (rs2Field w) (rs1Field w) (immSField w)
  | true, false, false => .storeFunct3_100 (rs2Field w) (rs1Field w) (immSField w)
  | true, false, true => .storeFunct3_101 (rs2Field w) (rs1Field w) (immSField w)
  | true, true, false => .storeFunct3_110 (rs2Field w) (rs1Field w) (immSField w)
  | true, true, true => .storeFunct3_111 (rs2Field w) (rs1Field w) (immSField w)

/-- Rows of opcode 1100011 (R71). -/
def decodeBranch (w : Word) : Instr :=
  match (funct3Field w)[2], (funct3Field w)[1], (funct3Field w)[0] with
  | false, false, false => .beqEncoding (rs1Field w) (rs2Field w) (immBField w)
  | false, false, true => .bne (rs1Field w) (rs2Field w) (immBField w)
  | false, true, false => .branchFunct3_010 (rs1Field w) (rs2Field w) (immBField w)
  | false, true, true => .branchFunct3_011 (rs1Field w) (rs2Field w) (immBField w)
  | true, false, false => .bltEncoding (rs1Field w) (rs2Field w) (immBField w)
  | true, false, true => .bgeEncoding (rs1Field w) (rs2Field w) (immBField w)
  | true, true, false => .bltuEncoding (rs1Field w) (rs2Field w) (immBField w)
  | true, true, true => .bgeuEncoding (rs1Field w) (rs2Field w) (immBField w)

/-- The row an opcode selects, with the word's fields as operands: one arm per opcode value, in order (R54, R71). -/
def decodeOpcode (op : BitVec 7) (w : Word) : Instr :=
  match op[6], op[5], op[4], op[3], op[2], op[1], op[0] with
  | false, false, false, false, false, false, false => .unknown0000000
  | false, false, false, false, false, false, true => .unknown0000001
  | false, false, false, false, false, true, false => .unknown0000010
  | false, false, false, false, false, true, true => decodeLoad w
  | false, false, false, false, true, false, false => .unknown0000100
  | false, false, false, false, true, false, true => .unknown0000101
  | false, false, false, false, true, true, false => .unknown0000110
  | false, false, false, false, true, true, true => .unknown0000111
  | false, false, false, true, false, false, false => .unknown0001000
  | false, false, false, true, false, false, true => .unknown0001001
  | false, false, false, true, false, true, false => .unknown0001010
  | false, false, false, true, false, true, true => .unknown0001011
  | false, false, false, true, true, false, false => .unknown0001100
  | false, false, false, true, true, false, true => .unknown0001101
  | false, false, false, true, true, true, false => .unknown0001110
  | false, false, false, true, true, true, true => .unknown0001111
  | false, false, true, false, false, false, false => .unknown0010000
  | false, false, true, false, false, false, true => .unknown0010001
  | false, false, true, false, false, true, false => .unknown0010010
  | false, false, true, false, false, true, true => decodeI w
  | false, false, true, false, true, false, false => .unknown0010100
  | false, false, true, false, true, false, true => .unknown0010101
  | false, false, true, false, true, true, false => .unknown0010110
  | false, false, true, false, true, true, true => .unknown0010111
  | false, false, true, true, false, false, false => .unknown0011000
  | false, false, true, true, false, false, true => .unknown0011001
  | false, false, true, true, false, true, false => .unknown0011010
  | false, false, true, true, false, true, true => .unknown0011011
  | false, false, true, true, true, false, false => .unknown0011100
  | false, false, true, true, true, false, true => .unknown0011101
  | false, false, true, true, true, true, false => .unknown0011110
  | false, false, true, true, true, true, true => .unknown0011111
  | false, true, false, false, false, false, false => .unknown0100000
  | false, true, false, false, false, false, true => .unknown0100001
  | false, true, false, false, false, true, false => .unknown0100010
  | false, true, false, false, false, true, true => decodeStore w
  | false, true, false, false, true, false, false => .unknown0100100
  | false, true, false, false, true, false, true => .unknown0100101
  | false, true, false, false, true, true, false => .unknown0100110
  | false, true, false, false, true, true, true => .unknown0100111
  | false, true, false, true, false, false, false => .unknown0101000
  | false, true, false, true, false, false, true => .unknown0101001
  | false, true, false, true, false, true, false => .unknown0101010
  | false, true, false, true, false, true, true => .unknown0101011
  | false, true, false, true, true, false, false => .unknown0101100
  | false, true, false, true, true, false, true => .unknown0101101
  | false, true, false, true, true, true, false => .unknown0101110
  | false, true, false, true, true, true, true => .unknown0101111
  | false, true, true, false, false, false, false => .unknown0110000
  | false, true, true, false, false, false, true => .unknown0110001
  | false, true, true, false, false, true, false => .unknown0110010
  | false, true, true, false, false, true, true => decodeR w
  | false, true, true, false, true, false, false => .unknown0110100
  | false, true, true, false, true, false, true => .unknown0110101
  | false, true, true, false, true, true, false => .unknown0110110
  | false, true, true, false, true, true, true => .lui (rdField w) (immUField w)
  | false, true, true, true, false, false, false => .unknown0111000
  | false, true, true, true, false, false, true => .unknown0111001
  | false, true, true, true, false, true, false => .unknown0111010
  | false, true, true, true, false, true, true => .unknown0111011
  | false, true, true, true, true, false, false => .unknown0111100
  | false, true, true, true, true, false, true => .unknown0111101
  | false, true, true, true, true, true, false => .unknown0111110
  | false, true, true, true, true, true, true => .unknown0111111
  | true, false, false, false, false, false, false => .unknown1000000
  | true, false, false, false, false, false, true => .unknown1000001
  | true, false, false, false, false, true, false => .unknown1000010
  | true, false, false, false, false, true, true => .unknown1000011
  | true, false, false, false, true, false, false => .unknown1000100
  | true, false, false, false, true, false, true => .unknown1000101
  | true, false, false, false, true, true, false => .unknown1000110
  | true, false, false, false, true, true, true => .unknown1000111
  | true, false, false, true, false, false, false => .unknown1001000
  | true, false, false, true, false, false, true => .unknown1001001
  | true, false, false, true, false, true, false => .unknown1001010
  | true, false, false, true, false, true, true => .unknown1001011
  | true, false, false, true, true, false, false => .unknown1001100
  | true, false, false, true, true, false, true => .unknown1001101
  | true, false, false, true, true, true, false => .unknown1001110
  | true, false, false, true, true, true, true => .unknown1001111
  | true, false, true, false, false, false, false => .unknown1010000
  | true, false, true, false, false, false, true => .unknown1010001
  | true, false, true, false, false, true, false => .unknown1010010
  | true, false, true, false, false, true, true => .unknown1010011
  | true, false, true, false, true, false, false => .unknown1010100
  | true, false, true, false, true, false, true => .unknown1010101
  | true, false, true, false, true, true, false => .unknown1010110
  | true, false, true, false, true, true, true => .unknown1010111
  | true, false, true, true, false, false, false => .unknown1011000
  | true, false, true, true, false, false, true => .unknown1011001
  | true, false, true, true, false, true, false => .unknown1011010
  | true, false, true, true, false, true, true => .unknown1011011
  | true, false, true, true, true, false, false => .unknown1011100
  | true, false, true, true, true, false, true => .unknown1011101
  | true, false, true, true, true, true, false => .unknown1011110
  | true, false, true, true, true, true, true => .unknown1011111
  | true, true, false, false, false, false, false => .unknown1100000
  | true, true, false, false, false, false, true => .unknown1100001
  | true, true, false, false, false, true, false => .unknown1100010
  | true, true, false, false, false, true, true => decodeBranch w
  | true, true, false, false, true, false, false => .unknown1100100
  | true, true, false, false, true, false, true => .unknown1100101
  | true, true, false, false, true, true, false => .unknown1100110
  | true, true, false, false, true, true, true => .jalr (rdField w) (rs1Field w) (immIField w)
  | true, true, false, true, false, false, false => .unknown1101000
  | true, true, false, true, false, false, true => .unknown1101001
  | true, true, false, true, false, true, false => .unknown1101010
  | true, true, false, true, false, true, true => .unknown1101011
  | true, true, false, true, true, false, false => .unknown1101100
  | true, true, false, true, true, false, true => .unknown1101101
  | true, true, false, true, true, true, false => .unknown1101110
  | true, true, false, true, true, true, true => .unknown1101111
  | true, true, true, false, false, false, false => .unknown1110000
  | true, true, true, false, false, false, true => .unknown1110001
  | true, true, true, false, false, true, false => .unknown1110010
  | true, true, true, false, false, true, true => .unknown1110011
  | true, true, true, false, true, false, false => .unknown1110100
  | true, true, true, false, true, false, true => .unknown1110101
  | true, true, true, false, true, true, false => .unknown1110110
  | true, true, true, false, true, true, true => .unknown1110111
  | true, true, true, true, false, false, false => .unknown1111000
  | true, true, true, true, false, false, true => .unknown1111001
  | true, true, true, true, false, true, false => .unknown1111010
  | true, true, true, true, false, true, true => .unknown1111011
  | true, true, true, true, true, false, false => .unknown1111100
  | true, true, true, true, true, false, true => .unknown1111101
  | true, true, true, true, true, true, false => .unknown1111110
  | true, true, true, true, true, true, true => .unknown1111111

/-- The instruction a 32-bit word encodes: total, "every input bit pattern has a defined outcome" (R55, R72). -/
def decode (w : Word) : Instr := decodeOpcode (opcodeField w) w

/-- Why a byte sequence is no instruction. -/
inductive DecodeReject
  /-- Fewer than the 4 bytes of an instruction (R50) are left: raised by `decodeBytes` alone, safe. -/
  | tooShort (bytes : Nat)
  deriving DecidableEq, Repr

/-- The word 4 bytes form, little-endian (R38, R41). -/
def wordOfBytes (b0 b1 b2 b3 : Byte) : Word := b3 ++ b2 ++ b1 ++ b0

/-- The 4 bytes of a word, least significant first (R38). -/
def bytesOfWord (w : Word) : List Byte :=
  [w.extractLsb' 0 8, w.extractLsb' 8 8, w.extractLsb' 16 8, w.extractLsb' 24 8]

/-- Decoding of a byte sequence: the instruction at its front and the bytes after it (R50: always 4 bytes). -/
def decodeBytes : List Byte → Except DecodeReject (Instr × List Byte)
  | b0 :: b1 :: b2 :: b3 :: rest => .ok (decode (wordOfBytes b0 b1 b2 b3), rest)
  | short => .error (.tooShort short.length)

/-- The instruction an opcode-table word decodes to: its low `nbits` bits, zero above them, laid out as 4 little-endian
bytes. A row of more than 32 bits is no instruction of this hardware (R50). -/
def decodeTableWord (nbits w : Nat) : Option Instr :=
  if nbits ≤ 32 then
    match decodeBytes (bytesOfWord (BitVec.ofNat 32 (w % 2 ^ nbits))) with
    | .ok (i, _) => some i
    | .error _ => none
  else none

/-! ### Encoding, from the field tables of R53. Bits no block interprets (R52) are encoded as 0. -/

/-- R format (R53); bits 31:25 are 0 but for bit 30. -/
def encodeR (bit30 : Bool) (funct3 : BitVec 3) (rd rs1 rs2 : RegIdx) : Word :=
  0#1 ++ BitVec.ofBool bit30 ++ 0#5 ++ rs2 ++ rs1 ++ funct3 ++ rd ++ 0b0110011#7
/-- I format and the source's J format (R53). -/
def encodeI (op : BitVec 7) (funct3 : BitVec 3) (rd rs1 : RegIdx) (imm : BitVec 12) : Word :=
  imm ++ rs1 ++ funct3 ++ rd ++ op
/-- S format (R53): the immediate is split at bit 5. -/
def encodeS (funct3 : BitVec 3) (rs2 rs1 : RegIdx) (imm : BitVec 12) : Word :=
  imm.extractLsb' 5 7 ++ rs2 ++ rs1 ++ funct3 ++ imm.extractLsb' 0 5 ++ 0b0100011#7
/-- B format (R53): offset bits 12, 10:5, 4:1 and 11; offset bit 0 has no place in the word. -/
def encodeB (funct3 : BitVec 3) (rs1 rs2 : RegIdx) (offset : BitVec 13) : Word :=
  offset.extractLsb' 12 1 ++ offset.extractLsb' 5 6 ++ rs2 ++ rs1 ++ funct3
    ++ offset.extractLsb' 1 4 ++ offset.extractLsb' 11 1 ++ 0b1100011#7
/-- U format (R53). -/
def encodeU (rd : RegIdx) (imm20 : BitVec 20) : Word := imm20 ++ rd ++ 0b0110111#7
/-- A word of format Unknown: only its opcode is interpreted (R108). -/
def encodeUnknown (op : BitVec 7) : Word := 0#25 ++ op

/-- The word of an instruction, its ignored bits 0: `rowMatch` with the operands in their fields (R53, R71). -/
def encode : Instr → Word
  | .add rd rs1 rs2 => encodeR false 0b000#3 rd rs1 rs2
  | .sub rd rs1 rs2 => encodeR true 0b000#3 rd rs1 rs2
  | .sllEncoding rd rs1 rs2 => encodeR false 0b001#3 rd rs1 rs2
  | .sltEncoding rd rs1 rs2 => encodeR false 0b010#3 rd rs1 rs2
  | .sltuEncoding rd rs1 rs2 => encodeR false 0b011#3 rd rs1 rs2
  | .xorEncoding rd rs1 rs2 => encodeR false 0b100#3 rd rs1 rs2
  | .sra rd rs1 rs2 => encodeR false 0b101#3 rd rs1 rs2
  | .or rd rs1 rs2 => encodeR false 0b110#3 rd rs1 rs2
  | .and rd rs1 rs2 => encodeR false 0b111#3 rd rs1 rs2
  | .addi rd rs1 imm => encodeI 0b0010011#7 0b000#3 rd rs1 imm
  | .slliEncoding rd rs1 imm => encodeI 0b0010011#7 0b001#3 rd rs1 imm
  | .sltiEncoding rd rs1 imm => encodeI 0b0010011#7 0b010#3 rd rs1 imm
  | .sltiu rd rs1 imm => encodeI 0b0010011#7 0b011#3 rd rs1 imm
  | .xoriEncoding rd rs1 imm => encodeI 0b0010011#7 0b100#3 rd rs1 imm
  | .srliSraiEncoding rd rs1 imm => encodeI 0b0010011#7 0b101#3 rd rs1 imm
  | .ori rd rs1 imm => encodeI 0b0010011#7 0b110#3 rd rs1 imm
  | .andiEncoding rd rs1 imm => encodeI 0b0010011#7 0b111#3 rd rs1 imm
  | .lbEncoding rd rs1 imm => encodeI 0b0000011#7 0b000#3 rd rs1 imm
  | .lhEncoding rd rs1 imm => encodeI 0b0000011#7 0b001#3 rd rs1 imm
  | .lw rd rs1 imm => encodeI 0b0000011#7 0b010#3 rd rs1 imm
  | .loadFunct3_011 rd rs1 imm => encodeI 0b0000011#7 0b011#3 rd rs1 imm
  | .lbu rd rs1 imm => encodeI 0b0000011#7 0b100#3 rd rs1 imm
  | .lhuEncoding rd rs1 imm => encodeI 0b0000011#7 0b101#3 rd rs1 imm
  | .loadFunct3_110 rd rs1 imm => encodeI 0b0000011#7 0b110#3 rd rs1 imm
  | .loadFunct3_111 rd rs1 imm => encodeI 0b0000011#7 0b111#3 rd rs1 imm
  | .sbEncoding rs2 rs1 imm => encodeS 0b000#3 rs2 rs1 imm
  | .sh rs2 rs1 imm => encodeS 0b001#3 rs2 rs1 imm
  | .sw rs2 rs1 imm => encodeS 0b010#3 rs2 rs1 imm
  | .storeFunct3_011 rs2 rs1 imm => encodeS 0b011#3 rs2 rs1 imm
  | .storeFunct3_100 rs2 rs1 imm => encodeS 0b100#3 rs2 rs1 imm
  | .storeFunct3_101 rs2 rs1 imm => encodeS 0b101#3 rs2 rs1 imm
  | .storeFunct3_110 rs2 rs1 imm => encodeS 0b110#3 rs2 rs1 imm
  | .storeFunct3_111 rs2 rs1 imm => encodeS 0b111#3 rs2 rs1 imm
  | .beqEncoding rs1 rs2 offset => encodeB 0b000#3 rs1 rs2 offset
  | .bne rs1 rs2 offset => encodeB 0b001#3 rs1 rs2 offset
  | .branchFunct3_010 rs1 rs2 offset => encodeB 0b010#3 rs1 rs2 offset
  | .branchFunct3_011 rs1 rs2 offset => encodeB 0b011#3 rs1 rs2 offset
  | .bltEncoding rs1 rs2 offset => encodeB 0b100#3 rs1 rs2 offset
  | .bgeEncoding rs1 rs2 offset => encodeB 0b101#3 rs1 rs2 offset
  | .bltuEncoding rs1 rs2 offset => encodeB 0b110#3 rs1 rs2 offset
  | .bgeuEncoding rs1 rs2 offset => encodeB 0b111#3 rs1 rs2 offset
  | .jalr rd rs1 imm => encodeI 0b1100111#7 0b000#3 rd rs1 imm
  | .lui rd imm20 => encodeU rd imm20
  | .unknown0000000 => encodeUnknown 0b0000000#7
  | .unknown0000001 => encodeUnknown 0b0000001#7
  | .unknown0000010 => encodeUnknown 0b0000010#7
  | .unknown0000100 => encodeUnknown 0b0000100#7
  | .unknown0000101 => encodeUnknown 0b0000101#7
  | .unknown0000110 => encodeUnknown 0b0000110#7
  | .unknown0000111 => encodeUnknown 0b0000111#7
  | .unknown0001000 => encodeUnknown 0b0001000#7
  | .unknown0001001 => encodeUnknown 0b0001001#7
  | .unknown0001010 => encodeUnknown 0b0001010#7
  | .unknown0001011 => encodeUnknown 0b0001011#7
  | .unknown0001100 => encodeUnknown 0b0001100#7
  | .unknown0001101 => encodeUnknown 0b0001101#7
  | .unknown0001110 => encodeUnknown 0b0001110#7
  | .unknown0001111 => encodeUnknown 0b0001111#7
  | .unknown0010000 => encodeUnknown 0b0010000#7
  | .unknown0010001 => encodeUnknown 0b0010001#7
  | .unknown0010010 => encodeUnknown 0b0010010#7
  | .unknown0010100 => encodeUnknown 0b0010100#7
  | .unknown0010101 => encodeUnknown 0b0010101#7
  | .unknown0010110 => encodeUnknown 0b0010110#7
  | .unknown0010111 => encodeUnknown 0b0010111#7
  | .unknown0011000 => encodeUnknown 0b0011000#7
  | .unknown0011001 => encodeUnknown 0b0011001#7
  | .unknown0011010 => encodeUnknown 0b0011010#7
  | .unknown0011011 => encodeUnknown 0b0011011#7
  | .unknown0011100 => encodeUnknown 0b0011100#7
  | .unknown0011101 => encodeUnknown 0b0011101#7
  | .unknown0011110 => encodeUnknown 0b0011110#7
  | .unknown0011111 => encodeUnknown 0b0011111#7
  | .unknown0100000 => encodeUnknown 0b0100000#7
  | .unknown0100001 => encodeUnknown 0b0100001#7
  | .unknown0100010 => encodeUnknown 0b0100010#7
  | .unknown0100100 => encodeUnknown 0b0100100#7
  | .unknown0100101 => encodeUnknown 0b0100101#7
  | .unknown0100110 => encodeUnknown 0b0100110#7
  | .unknown0100111 => encodeUnknown 0b0100111#7
  | .unknown0101000 => encodeUnknown 0b0101000#7
  | .unknown0101001 => encodeUnknown 0b0101001#7
  | .unknown0101010 => encodeUnknown 0b0101010#7
  | .unknown0101011 => encodeUnknown 0b0101011#7
  | .unknown0101100 => encodeUnknown 0b0101100#7
  | .unknown0101101 => encodeUnknown 0b0101101#7
  | .unknown0101110 => encodeUnknown 0b0101110#7
  | .unknown0101111 => encodeUnknown 0b0101111#7
  | .unknown0110000 => encodeUnknown 0b0110000#7
  | .unknown0110001 => encodeUnknown 0b0110001#7
  | .unknown0110010 => encodeUnknown 0b0110010#7
  | .unknown0110100 => encodeUnknown 0b0110100#7
  | .unknown0110101 => encodeUnknown 0b0110101#7
  | .unknown0110110 => encodeUnknown 0b0110110#7
  | .unknown0111000 => encodeUnknown 0b0111000#7
  | .unknown0111001 => encodeUnknown 0b0111001#7
  | .unknown0111010 => encodeUnknown 0b0111010#7
  | .unknown0111011 => encodeUnknown 0b0111011#7
  | .unknown0111100 => encodeUnknown 0b0111100#7
  | .unknown0111101 => encodeUnknown 0b0111101#7
  | .unknown0111110 => encodeUnknown 0b0111110#7
  | .unknown0111111 => encodeUnknown 0b0111111#7
  | .unknown1000000 => encodeUnknown 0b1000000#7
  | .unknown1000001 => encodeUnknown 0b1000001#7
  | .unknown1000010 => encodeUnknown 0b1000010#7
  | .unknown1000011 => encodeUnknown 0b1000011#7
  | .unknown1000100 => encodeUnknown 0b1000100#7
  | .unknown1000101 => encodeUnknown 0b1000101#7
  | .unknown1000110 => encodeUnknown 0b1000110#7
  | .unknown1000111 => encodeUnknown 0b1000111#7
  | .unknown1001000 => encodeUnknown 0b1001000#7
  | .unknown1001001 => encodeUnknown 0b1001001#7
  | .unknown1001010 => encodeUnknown 0b1001010#7
  | .unknown1001011 => encodeUnknown 0b1001011#7
  | .unknown1001100 => encodeUnknown 0b1001100#7
  | .unknown1001101 => encodeUnknown 0b1001101#7
  | .unknown1001110 => encodeUnknown 0b1001110#7
  | .unknown1001111 => encodeUnknown 0b1001111#7
  | .unknown1010000 => encodeUnknown 0b1010000#7
  | .unknown1010001 => encodeUnknown 0b1010001#7
  | .unknown1010010 => encodeUnknown 0b1010010#7
  | .unknown1010011 => encodeUnknown 0b1010011#7
  | .unknown1010100 => encodeUnknown 0b1010100#7
  | .unknown1010101 => encodeUnknown 0b1010101#7
  | .unknown1010110 => encodeUnknown 0b1010110#7
  | .unknown1010111 => encodeUnknown 0b1010111#7
  | .unknown1011000 => encodeUnknown 0b1011000#7
  | .unknown1011001 => encodeUnknown 0b1011001#7
  | .unknown1011010 => encodeUnknown 0b1011010#7
  | .unknown1011011 => encodeUnknown 0b1011011#7
  | .unknown1011100 => encodeUnknown 0b1011100#7
  | .unknown1011101 => encodeUnknown 0b1011101#7
  | .unknown1011110 => encodeUnknown 0b1011110#7
  | .unknown1011111 => encodeUnknown 0b1011111#7
  | .unknown1100000 => encodeUnknown 0b1100000#7
  | .unknown1100001 => encodeUnknown 0b1100001#7
  | .unknown1100010 => encodeUnknown 0b1100010#7
  | .unknown1100100 => encodeUnknown 0b1100100#7
  | .unknown1100101 => encodeUnknown 0b1100101#7
  | .unknown1100110 => encodeUnknown 0b1100110#7
  | .unknown1101000 => encodeUnknown 0b1101000#7
  | .unknown1101001 => encodeUnknown 0b1101001#7
  | .unknown1101010 => encodeUnknown 0b1101010#7
  | .unknown1101011 => encodeUnknown 0b1101011#7
  | .unknown1101100 => encodeUnknown 0b1101100#7
  | .unknown1101101 => encodeUnknown 0b1101101#7
  | .unknown1101110 => encodeUnknown 0b1101110#7
  | .unknown1101111 => encodeUnknown 0b1101111#7
  | .unknown1110000 => encodeUnknown 0b1110000#7
  | .unknown1110001 => encodeUnknown 0b1110001#7
  | .unknown1110010 => encodeUnknown 0b1110010#7
  | .unknown1110011 => encodeUnknown 0b1110011#7
  | .unknown1110100 => encodeUnknown 0b1110100#7
  | .unknown1110101 => encodeUnknown 0b1110101#7
  | .unknown1110110 => encodeUnknown 0b1110110#7
  | .unknown1110111 => encodeUnknown 0b1110111#7
  | .unknown1111000 => encodeUnknown 0b1111000#7
  | .unknown1111001 => encodeUnknown 0b1111001#7
  | .unknown1111010 => encodeUnknown 0b1111010#7
  | .unknown1111011 => encodeUnknown 0b1111011#7
  | .unknown1111100 => encodeUnknown 0b1111100#7
  | .unknown1111101 => encodeUnknown 0b1111101#7
  | .unknown1111110 => encodeUnknown 0b1111110#7
  | .unknown1111111 => encodeUnknown 0b1111111#7

/-- The bytes of an instruction as the hardware stores them (R38). -/
def encodeBytes (i : Instr) : List Byte := bytesOfWord (encode i)

/-! ### The opcode map (R71): the match and mask of each row, as spec/opcode_table.json lists them. -/

/-- The `match` column of R71. -/
def Instr.rowMatch : Instr → Word
  | .add _ _ _ => 0x00000033#32
  | .sub _ _ _ => 0x40000033#32
  | .sllEncoding _ _ _ => 0x00001033#32
  | .sltEncoding _ _ _ => 0x00002033#32
  | .sltuEncoding _ _ _ => 0x00003033#32
  | .xorEncoding _ _ _ => 0x00004033#32
  | .sra _ _ _ => 0x00005033#32
  | .or _ _ _ => 0x00006033#32
  | .and _ _ _ => 0x00007033#32
  | .addi _ _ _ => 0x00000013#32
  | .slliEncoding _ _ _ => 0x00001013#32
  | .sltiEncoding _ _ _ => 0x00002013#32
  | .sltiu _ _ _ => 0x00003013#32
  | .xoriEncoding _ _ _ => 0x00004013#32
  | .srliSraiEncoding _ _ _ => 0x00005013#32
  | .ori _ _ _ => 0x00006013#32
  | .andiEncoding _ _ _ => 0x00007013#32
  | .lbEncoding _ _ _ => 0x00000003#32
  | .lhEncoding _ _ _ => 0x00001003#32
  | .lw _ _ _ => 0x00002003#32
  | .loadFunct3_011 _ _ _ => 0x00003003#32
  | .lbu _ _ _ => 0x00004003#32
  | .lhuEncoding _ _ _ => 0x00005003#32
  | .loadFunct3_110 _ _ _ => 0x00006003#32
  | .loadFunct3_111 _ _ _ => 0x00007003#32
  | .sbEncoding _ _ _ => 0x00000023#32
  | .sh _ _ _ => 0x00001023#32
  | .sw _ _ _ => 0x00002023#32
  | .storeFunct3_011 _ _ _ => 0x00003023#32
  | .storeFunct3_100 _ _ _ => 0x00004023#32
  | .storeFunct3_101 _ _ _ => 0x00005023#32
  | .storeFunct3_110 _ _ _ => 0x00006023#32
  | .storeFunct3_111 _ _ _ => 0x00007023#32
  | .beqEncoding _ _ _ => 0x00000063#32
  | .bne _ _ _ => 0x00001063#32
  | .branchFunct3_010 _ _ _ => 0x00002063#32
  | .branchFunct3_011 _ _ _ => 0x00003063#32
  | .bltEncoding _ _ _ => 0x00004063#32
  | .bgeEncoding _ _ _ => 0x00005063#32
  | .bltuEncoding _ _ _ => 0x00006063#32
  | .bgeuEncoding _ _ _ => 0x00007063#32
  | .jalr _ _ _ => 0x00000067#32
  | .lui _ _ => 0x00000037#32
  | .unknown0000000 => 0x00000000#32
  | .unknown0000001 => 0x00000001#32
  | .unknown0000010 => 0x00000002#32
  | .unknown0000100 => 0x00000004#32
  | .unknown0000101 => 0x00000005#32
  | .unknown0000110 => 0x00000006#32
  | .unknown0000111 => 0x00000007#32
  | .unknown0001000 => 0x00000008#32
  | .unknown0001001 => 0x00000009#32
  | .unknown0001010 => 0x0000000A#32
  | .unknown0001011 => 0x0000000B#32
  | .unknown0001100 => 0x0000000C#32
  | .unknown0001101 => 0x0000000D#32
  | .unknown0001110 => 0x0000000E#32
  | .unknown0001111 => 0x0000000F#32
  | .unknown0010000 => 0x00000010#32
  | .unknown0010001 => 0x00000011#32
  | .unknown0010010 => 0x00000012#32
  | .unknown0010100 => 0x00000014#32
  | .unknown0010101 => 0x00000015#32
  | .unknown0010110 => 0x00000016#32
  | .unknown0010111 => 0x00000017#32
  | .unknown0011000 => 0x00000018#32
  | .unknown0011001 => 0x00000019#32
  | .unknown0011010 => 0x0000001A#32
  | .unknown0011011 => 0x0000001B#32
  | .unknown0011100 => 0x0000001C#32
  | .unknown0011101 => 0x0000001D#32
  | .unknown0011110 => 0x0000001E#32
  | .unknown0011111 => 0x0000001F#32
  | .unknown0100000 => 0x00000020#32
  | .unknown0100001 => 0x00000021#32
  | .unknown0100010 => 0x00000022#32
  | .unknown0100100 => 0x00000024#32
  | .unknown0100101 => 0x00000025#32
  | .unknown0100110 => 0x00000026#32
  | .unknown0100111 => 0x00000027#32
  | .unknown0101000 => 0x00000028#32
  | .unknown0101001 => 0x00000029#32
  | .unknown0101010 => 0x0000002A#32
  | .unknown0101011 => 0x0000002B#32
  | .unknown0101100 => 0x0000002C#32
  | .unknown0101101 => 0x0000002D#32
  | .unknown0101110 => 0x0000002E#32
  | .unknown0101111 => 0x0000002F#32
  | .unknown0110000 => 0x00000030#32
  | .unknown0110001 => 0x00000031#32
  | .unknown0110010 => 0x00000032#32
  | .unknown0110100 => 0x00000034#32
  | .unknown0110101 => 0x00000035#32
  | .unknown0110110 => 0x00000036#32
  | .unknown0111000 => 0x00000038#32
  | .unknown0111001 => 0x00000039#32
  | .unknown0111010 => 0x0000003A#32
  | .unknown0111011 => 0x0000003B#32
  | .unknown0111100 => 0x0000003C#32
  | .unknown0111101 => 0x0000003D#32
  | .unknown0111110 => 0x0000003E#32
  | .unknown0111111 => 0x0000003F#32
  | .unknown1000000 => 0x00000040#32
  | .unknown1000001 => 0x00000041#32
  | .unknown1000010 => 0x00000042#32
  | .unknown1000011 => 0x00000043#32
  | .unknown1000100 => 0x00000044#32
  | .unknown1000101 => 0x00000045#32
  | .unknown1000110 => 0x00000046#32
  | .unknown1000111 => 0x00000047#32
  | .unknown1001000 => 0x00000048#32
  | .unknown1001001 => 0x00000049#32
  | .unknown1001010 => 0x0000004A#32
  | .unknown1001011 => 0x0000004B#32
  | .unknown1001100 => 0x0000004C#32
  | .unknown1001101 => 0x0000004D#32
  | .unknown1001110 => 0x0000004E#32
  | .unknown1001111 => 0x0000004F#32
  | .unknown1010000 => 0x00000050#32
  | .unknown1010001 => 0x00000051#32
  | .unknown1010010 => 0x00000052#32
  | .unknown1010011 => 0x00000053#32
  | .unknown1010100 => 0x00000054#32
  | .unknown1010101 => 0x00000055#32
  | .unknown1010110 => 0x00000056#32
  | .unknown1010111 => 0x00000057#32
  | .unknown1011000 => 0x00000058#32
  | .unknown1011001 => 0x00000059#32
  | .unknown1011010 => 0x0000005A#32
  | .unknown1011011 => 0x0000005B#32
  | .unknown1011100 => 0x0000005C#32
  | .unknown1011101 => 0x0000005D#32
  | .unknown1011110 => 0x0000005E#32
  | .unknown1011111 => 0x0000005F#32
  | .unknown1100000 => 0x00000060#32
  | .unknown1100001 => 0x00000061#32
  | .unknown1100010 => 0x00000062#32
  | .unknown1100100 => 0x00000064#32
  | .unknown1100101 => 0x00000065#32
  | .unknown1100110 => 0x00000066#32
  | .unknown1101000 => 0x00000068#32
  | .unknown1101001 => 0x00000069#32
  | .unknown1101010 => 0x0000006A#32
  | .unknown1101011 => 0x0000006B#32
  | .unknown1101100 => 0x0000006C#32
  | .unknown1101101 => 0x0000006D#32
  | .unknown1101110 => 0x0000006E#32
  | .unknown1101111 => 0x0000006F#32
  | .unknown1110000 => 0x00000070#32
  | .unknown1110001 => 0x00000071#32
  | .unknown1110010 => 0x00000072#32
  | .unknown1110011 => 0x00000073#32
  | .unknown1110100 => 0x00000074#32
  | .unknown1110101 => 0x00000075#32
  | .unknown1110110 => 0x00000076#32
  | .unknown1110111 => 0x00000077#32
  | .unknown1111000 => 0x00000078#32
  | .unknown1111001 => 0x00000079#32
  | .unknown1111010 => 0x0000007A#32
  | .unknown1111011 => 0x0000007B#32
  | .unknown1111100 => 0x0000007C#32
  | .unknown1111101 => 0x0000007D#32
  | .unknown1111110 => 0x0000007E#32
  | .unknown1111111 => 0x0000007F#32

/-- The `mask` column of R71: opcode and funct3, also bit 30 for ADD and SUB; the opcode alone for JALR, LUI and the
Unknown rows. -/
def Instr.rowMask : Instr → Word
  | .add _ _ _ | .sub _ _ _ => 0x4000707F#32
  | .sllEncoding _ _ _ | .sltEncoding _ _ _ | .sltuEncoding _ _ _ | .xorEncoding _ _ _ | .sra _ _ _
  | .or _ _ _ | .and _ _ _ | .addi _ _ _ | .slliEncoding _ _ _ | .sltiEncoding _ _ _ | .sltiu _ _ _
  | .xoriEncoding _ _ _ | .srliSraiEncoding _ _ _ | .ori _ _ _ | .andiEncoding _ _ _ | .lbEncoding _ _ _
  | .lhEncoding _ _ _ | .lw _ _ _ | .loadFunct3_011 _ _ _ | .lbu _ _ _ | .lhuEncoding _ _ _
  | .loadFunct3_110 _ _ _ | .loadFunct3_111 _ _ _ | .sbEncoding _ _ _ | .sh _ _ _ | .sw _ _ _
  | .storeFunct3_011 _ _ _ | .storeFunct3_100 _ _ _ | .storeFunct3_101 _ _ _ | .storeFunct3_110 _ _ _
  | .storeFunct3_111 _ _ _ | .beqEncoding _ _ _ | .bne _ _ _ | .branchFunct3_010 _ _ _
  | .branchFunct3_011 _ _ _ | .bltEncoding _ _ _ | .bgeEncoding _ _ _ | .bltuEncoding _ _ _
  | .bgeuEncoding _ _ _ => 0x0000707F#32
  | .jalr _ _ _ | .lui _ _ | .unknown0000000 | .unknown0000001 | .unknown0000010 | .unknown0000100
  | .unknown0000101 | .unknown0000110 | .unknown0000111 | .unknown0001000 | .unknown0001001 | .unknown0001010
  | .unknown0001011 | .unknown0001100 | .unknown0001101 | .unknown0001110 | .unknown0001111 | .unknown0010000
  | .unknown0010001 | .unknown0010010 | .unknown0010100 | .unknown0010101 | .unknown0010110 | .unknown0010111
  | .unknown0011000 | .unknown0011001 | .unknown0011010 | .unknown0011011 | .unknown0011100 | .unknown0011101
  | .unknown0011110 | .unknown0011111 | .unknown0100000 | .unknown0100001 | .unknown0100010 | .unknown0100100
  | .unknown0100101 | .unknown0100110 | .unknown0100111 | .unknown0101000 | .unknown0101001 | .unknown0101010
  | .unknown0101011 | .unknown0101100 | .unknown0101101 | .unknown0101110 | .unknown0101111 | .unknown0110000
  | .unknown0110001 | .unknown0110010 | .unknown0110100 | .unknown0110101 | .unknown0110110 | .unknown0111000
  | .unknown0111001 | .unknown0111010 | .unknown0111011 | .unknown0111100 | .unknown0111101 | .unknown0111110
  | .unknown0111111 | .unknown1000000 | .unknown1000001 | .unknown1000010 | .unknown1000011 | .unknown1000100
  | .unknown1000101 | .unknown1000110 | .unknown1000111 | .unknown1001000 | .unknown1001001 | .unknown1001010
  | .unknown1001011 | .unknown1001100 | .unknown1001101 | .unknown1001110 | .unknown1001111 | .unknown1010000
  | .unknown1010001 | .unknown1010010 | .unknown1010011 | .unknown1010100 | .unknown1010101 | .unknown1010110
  | .unknown1010111 | .unknown1011000 | .unknown1011001 | .unknown1011010 | .unknown1011011 | .unknown1011100
  | .unknown1011101 | .unknown1011110 | .unknown1011111 | .unknown1100000 | .unknown1100001 | .unknown1100010
  | .unknown1100100 | .unknown1100101 | .unknown1100110 | .unknown1101000 | .unknown1101001 | .unknown1101010
  | .unknown1101011 | .unknown1101100 | .unknown1101101 | .unknown1101110 | .unknown1101111 | .unknown1110000
  | .unknown1110001 | .unknown1110010 | .unknown1110011 | .unknown1110100 | .unknown1110101 | .unknown1110110
  | .unknown1110111 | .unknown1111000 | .unknown1111001 | .unknown1111010 | .unknown1111011 | .unknown1111100
  | .unknown1111101 | .unknown1111110 | .unknown1111111 => 0x0000007F#32

end Sys2Proof
end

