-- ==== Sys2Proof/Config.lean ====
section
/-! DEFINITION. The implementation parameters the spec leaves OPEN or exposes as a switch (00_scope.md R6). -/

namespace Sys2Proof

/-- The parameters of one implementation (R6, decisions D5 and D13). Every statement about the machine quantifies
over them: a state carries the configuration it runs under, and no instruction changes it. -/
structure Config where
  /-- `IMEM_SIZE`: the capacity of instruction memory in bytes, an OPEN parameter, a positive natural. -/
  imemSize : Nat
  /-- `DMEM_SIZE`: the capacity of data memory in bytes, an OPEN parameter, a positive natural. -/
  dmemSize : Nat
  /-- `ADD_USES_BIT30`: whether an R-type word with funct3 000 and bit 30 clear adds. The source's table says `false`
  (R6, R68, 90_conflicts.md C1). -/
  addUsesBit30 : Bool
  deriving DecidableEq, Repr

/-- The configuration the reset state carries. `ADD_USES_BIT30 = false` is the spec's default (R6); the two sizes are
a DESIGN CHOICE, unsafe, notes/assumptions/1.md: the spec leaves them OPEN and uses 4096 in 95_test_vectors.md. -/
def Config.default : Config := { imemSize := 4096, dmemSize := 4096, addUsesBit30 := false }

/-- What the spec asks of the parameters: both sizes are positive (R6). -/
def Config.wf (c : Config) : Bool := decide (0 < c.imemSize) && decide (0 < c.dmemSize)

end Sys2Proof
end

