-- ==== Sys2Proof/Machine/State.lean ====
section
/-! DEFINITION. The machine's state (10_state.md R31), its two model faults (60_exceptions.md R110) and its reset value
(70_reset_and_hazards.md R124). -/

namespace Sys2Proof.Machine

/-- A byte memory: the listed addresses, strictly rising, each with a byte other than what an unlisted address reads as
(`Memory.wf`). Equal memories are equal lists. -/
abbrev Memory := List Host.Cell

/-- Why a cycle has no next state (R110). Both are the model's own faults, not behaviour of the hardware, which does not
say what an access outside its finite memories does (decision D17). A faulted cycle commits no write (R84). -/
inductive Fault
  /-- Raised by the instruction fetch of `step` (and by the driver's halt test) when a byte of the word at `pc` lies at
  or beyond `IMEM_SIZE` (R41). Safe: no claim about a run past it can be proved. -/
  | fetchOutOfRange (pc : Word)
  /-- Raised by a load or store when a byte of its `n`-byte access at `addr` lies at or beyond `DMEM_SIZE` (R40).
  Safe: no claim about a run past it can be proved. -/
  | dataOutOfRange (addr : Word) (n : Nat)
  deriving DecidableEq, Repr

/-- Why the model would give an instruction no meaning. Every instruction of the table has one, so nothing raises it. -/
inductive Refusal
  /-- Raised by an arm of `exec` whose instruction has no meaning yet; no arm raises it now. Safe. -/
  | notModelled (mnemonic : String)
  deriving DecidableEq, Repr

/-- Everything the spec gives the machine (R31), with the parameters of the run and the model's own fault mark. -/
structure State where
  /-- The implementation parameters the run is under (R6); no instruction changes them. -/
  config : Config
  /-- The register file: 32 registers of 32 bits (R13). Entry 0 is never read and never written (R14). -/
  regs : Vector Word 32
  /-- The program counter: the byte address in instruction memory of the instruction being executed (R20, R21). -/
  pc : Word
  /-- Data memory, byte-addressed (R26). -/
  dmem : Memory
  /-- Instruction memory, read-only after construction (R25). -/
  imem : Memory
  /-- `L`: the length in bytes of the loaded image (R25, R125), read only by the driver's halt test (R127). -/
  imageLen : Nat
  /-- The model's own fault mark (R31, R110): clear at reset, set by the driver when a cycle faults, never cleared. -/
  faultMark : Option Fault
  deriving DecidableEq, Repr

/-- The state after construction with no image loaded (R123, R124): registers 0 (R19), pc 0 (R24), both memories 0
throughout (R25, R27), no image bytes, no fault. The two memory sizes are those of `Config.default`
(DESIGN CHOICE, notes/assumptions/1.md). -/
def State.reset : State where
  config := Config.default
  regs := Vector.replicate 32 0#32
  pc := 0#32
  dmem := []
  imem := []
  imageLen := 0
  faultMark := none

end Sys2Proof.Machine
end

