-- ==== Sys2Proof/Machine/Ops.lean ====
section
/-! DEFINITION. The shared operations over registers, memories and the program counter. The hardware takes no exception
and returns from none (60_exceptions.md R109, R113, R114): there is no saved pc, no status and no vector, so there is no
exception-entry operation here; the two model faults of R110 are raised where an access is checked. -/

namespace Sys2Proof.Machine

/-- What one cycle answers. -/
abbrev Outcome := Host.Outcome State Fault Refusal

/-! ### Byte memory -/

/-- What an unlisted address reads as: data memory is 0 at reset (R27) and instruction memory is 0 past the image (R25). -/
def Memory.unlisted : Byte := 0#8

/-- The byte at an address: `MemRead(a, 1)` of R10. -/
def Memory.read : Memory → Nat → Byte
  | [], _ => Memory.unlisted
  | (k, v) :: m, a => if a = k then v else Memory.read m a

/-- One byte stored, keeping the canonical form: a byte equal to what an unlisted address reads as is not listed. -/
def Memory.write : Memory → Nat → Byte → Memory
  | [], a, b => if b = Memory.unlisted then [] else [(a, b)]
  | (k, v) :: m, a, b =>
    if a < k then (if b = Memory.unlisted then (k, v) :: m else (a, b) :: (k, v) :: m)
    else if a = k then (if b = Memory.unlisted then m else (a, b) :: m)
    else (k, v) :: Memory.write m a b

/-- Addresses strictly rising from `low` on, and no listed byte equal to the unlisted one. -/
def Memory.wfFrom : Nat → Memory → Bool
  | _, [] => true
  | low, (k, v) :: m => decide (low ≤ k) && decide (v ≠ Memory.unlisted) && Memory.wfFrom (k + 1) m

/-- The canonical form of a memory. -/
def Memory.wf (m : Memory) : Bool := Memory.wfFrom 0 m

/-- Every listed address lies below `size`. -/
def Memory.below (size : Nat) (m : Memory) : Bool := m.all fun c => decide (c.1 < size)

/-- The four bytes from `a`, little-endian: `MemRead(a, 4)` (R34, R38). Addresses do not wrap (R33). -/
def Memory.readWord (m : Memory) (a : Nat) : Word :=
  wordOfBytes (m.read a) (m.read (a + 1)) (m.read (a + 2)) (m.read (a + 3))

/-- The low two bytes of `v` at `a` and `a + 1`: `MemWrite(a, 2, v[15:0])`, the narrow write form (R35). -/
def Memory.writeHalf (m : Memory) (a : Nat) (v : Word) : Memory :=
  Memory.write (Memory.write m a (v.extractLsb' 0 8)) (a + 1) (v.extractLsb' 8 8)

/-- The wide write form: the narrow form, then two bytes more (R35). -/
def Memory.writeWord (m : Memory) (a : Nat) (v : Word) : Memory :=
  Memory.writeHalf (Memory.writeHalf m a v) (a + 2) (v >>> 16)

/-- Consecutive bytes stored from `a` on: the image loader of R125. -/
def Memory.writeBytes (m : Memory) (a : Nat) : List Byte → Memory
  | [] => m
  | b :: bs => Memory.writeBytes (Memory.write m a b) (a + 1) bs

/-! ### The register file (R13 to R16) -/

/-- A read port: `x[i]`, 0 when `i` is 0 whatever is stored (R14, R15). -/
def State.x (s : State) (i : RegIdx) : Word := if i = 0#5 then 0#32 else s.regs[i.toNat]'i.isLt

/-- The write port: "no-op if !enable or index==0; otherwise overwrites the stored value" (R16). -/
def State.writePort (s : State) (i : RegIdx) (v : Word) (enable : Bool) : State :=
  { s with regs := if enable && i != 0#5 then s.regs.set i.toNat v i.isLt else s.regs }

/-- `x[i] <- v` (R10): a write with the enable on, discarded when `i` is 0. -/
def State.setX (s : State) (i : RegIdx) (v : Word) : State := s.writePort i v true

/-! ### The program counter (R20 to R23): no alignment is enforced -/

/-- `pc <- target` (R10). -/
def State.setPc (s : State) (target : Word) : State := { s with pc := target }

/-- `pc + 4`, modulo 2^32 (R81, R82). -/
def State.pcPlus4 (s : State) : Word := s.pc + 4#32

/-! ### Data memory and fault mark -/

def State.setDmem (s : State) (m : Memory) : State := { s with dmem := m }

/-- The faulted state: the state before the faulting cycle (R113) with the mark set (R110). -/
def State.withFaultMark (s : State) (f : Fault) : State := { s with faultMark := some f }

/-- Whether an access of `n` bytes at `addr`, read as an unsigned number, lies inside data memory (R33, R40). -/
def State.dataInRange (s : State) (addr : Word) (n : Nat) : Bool := decide (addr.toNat + n ≤ s.config.dmemSize)

/-- The wide read form: four bytes, or `DataOutOfRange(addr, 4)` (R34, R40). -/
def State.loadWide (s : State) (addr : Word) : Except Fault Word :=
  if s.dataInRange addr 4 then .ok (s.dmem.readWord addr.toNat) else .error (.dataOutOfRange addr 4)

/-- The extension of a narrow load: `zext_8` of the byte (R34, decision D9). -/
def zextByte (b : Byte) : Word := b.setWidth 32

/-- The narrow read form: one byte, zero-extended, or `DataOutOfRange(addr, 1)` (R34, R40). -/
def State.loadNarrow (s : State) (addr : Word) : Except Fault Word :=
  if s.dataInRange addr 1 then .ok (zextByte (s.dmem.read addr.toNat)) else .error (.dataOutOfRange addr 1)

/-- The wide write form: four bytes, or `DataOutOfRange(addr, 4)` and nothing stored (R35, R40). -/
def State.storeWide (s : State) (addr v : Word) : Except Fault Memory :=
  if s.dataInRange addr 4 then .ok (s.dmem.writeWord addr.toNat v) else .error (.dataOutOfRange addr 4)

/-- The narrow write form: two bytes, or `DataOutOfRange(addr, 2)` and nothing stored (R35, R40). -/
def State.storeNarrow (s : State) (addr v : Word) : Except Fault Memory :=
  if s.dataInRange addr 2 then .ok (s.dmem.writeHalf addr.toNat v) else .error (.dataOutOfRange addr 2)

/-! ### How an instruction ends: all its writes together, at the end of the cycle (R84) -/

/-- Write back `v` to `rd` and advance the pc by 4 (R80, R81). -/
def writeBack (rd : RegIdx) (v : Word) (s : State) : Outcome := .next ((s.setX rd v).setPc s.pcPlus4)

/-- A load's end: write back what the access read, or stop with its fault and no write (R84). The access is made and
checked even where `rd` is x0 (R73). -/
def loadInto (rd : RegIdx) (access : Except Fault Word) (s : State) : Outcome :=
  match access with
  | .ok v => writeBack rd v s
  | .error f => .fault f

/-- A store's end: the new data memory and the pc advanced by 4, or the access's fault and no write (R84). -/
def storeInto (access : Except Fault Memory) (s : State) : Outcome :=
  match access with
  | .ok m => .next ((s.setDmem m).setPc s.pcPlus4)
  | .error f => .fault f

/-- The only effect of a no-op: `pc <- pc + 4` (R12, R108). -/
def advance (s : State) : Outcome := .next (s.setPc s.pcPlus4)

/-! ### Instruction memory (R25, R41, R125) -/

/-- `IMemRead(pc)`: four little-endian bytes at the pc, aligned or not, or `FetchOutOfRange(pc)` (R23, R41). -/
def fetchWord (s : State) : Except Fault Word :=
  if s.pc.toNat + 4 ≤ s.config.imemSize then .ok (s.imem.readWord s.pc.toNat) else .error (.fetchOutOfRange s.pc)

/-- A word of the image placed at the pc, with the image made long enough to hold it; nothing where instruction memory
ends before it. No instruction does this: it stands for the load of a program from outside (R125, R128;
notes/assumptions/4.md). -/
def placeWord (s : State) (w : Word) : State :=
  if s.pc.toNat + 4 ≤ s.config.imemSize then
    { s with imem := s.imem.writeBytes s.pc.toNat (bytesOfWord w), imageLen := max s.imageLen (s.pc.toNat + 4) }
  else s

end Sys2Proof.Machine
end

