-- ==== Sys2Proof/Machine/Operands.lean ====
section
/-! DEFINITION. Every operand form: register, sign-extended immediate, upper immediate, base plus displacement
(00_scope.md R9; 30_encoding.md R57 to R60; 43_load_store.md preamble). -/

namespace Sys2Proof.Machine

/-- `sext_12`: the I, S and J immediates as 32-bit operands (R9, R57, R58). -/
def sext12 (imm : BitVec 12) : Word := imm.signExtend 32

/-- `sext_13`: the B immediate as a 32-bit operand (R9, R59). -/
def sext13 (imm : BitVec 13) : Word := imm.signExtend 32

/-- The U immediate: 20 bits placed in bits 31:12, "this is the final value" (R60). -/
def upperImm (imm20 : BitVec 20) : Word := imm20 ++ 0#12

/-- The one addressing mode, `x[rs1] + imm` modulo 2^32; the base register is not modified (R33, R66). Also the target
of JALR, whose rs1 value is the one at the start of the cycle and whose bits are not masked (R81, decision D11). -/
def State.effectiveAddress (s : State) (rs1 : RegIdx) (imm : BitVec 12) : Word := s.x rs1 + sext12 imm

/-- The shift amount of Sra: the low five bits of operand 2 (R77). -/
def shiftAmount (op2 : Word) : Nat := (op2.extractLsb' 0 5).toNat

/-- The arithmetic right shift of R77, filling with the sign bit. -/
def sraValue (op1 op2 : Word) : Word := op1.sshiftRight (shiftAmount op2)

/-- The unsigned comparison of R77: 1 or 0. -/
def sltuValue (op1 op2 : Word) : Word := if op1.toNat < op2.toNat then 1#32 else 0#32

end Sys2Proof.Machine
end

