-- ==== Sys2Proof/Machine/Flags.lean ====
section
/-! DEFINITION. The one flag: the ALU's zero flag, an output of the current cycle that is not stored (10_state.md R28,
40_datapath.md R78) and that only the branch decision reads (R81). There are no other flags or condition codes. -/

namespace Sys2Proof.Machine

/-- `zero = (result == 0)` (R78). -/
def zeroFlag (result : Word) : Bool := result == 0#32

/-- The branch decision's flag: zero of the difference of the operands (R67, R104). -/
def differenceIsZero (a b : Word) : Bool := zeroFlag (a - b)

/-- Next pc of a branch: pc + imm when the zero flag is false, "branch taken when operands are NOT equal", else pc + 4
(R81, R104). -/
def State.branchTarget (s : State) (rs1 rs2 : RegIdx) (offset : BitVec 13) : Word :=
  if differenceIsZero (s.x rs1) (s.x rs2) then s.pcPlus4 else s.pc + sext13 offset

/-- A branch word's whole effect: the pc, and nothing else (R104, R105). -/
def branchIfDiffer (rs1 rs2 : RegIdx) (offset : BitVec 13) (s : State) : Outcome :=
  .next (s.setPc (s.branchTarget rs1 rs2 offset))

end Sys2Proof.Machine
end

