-- ==== Sys2Proof/Machine/Control.lean ====
section
/-! DEFINITION. Control transfer: branches (opcode 1100011) and JALR (opcode 1100111) (44_control_transfer.md R104 to R106). -/

namespace Sys2Proof.Machine

/-- The RISC-V BEQ encoding, funct3 000: behaves as `BNE` (R105). -/
def execBeqEncoding (rs1 rs2 : RegIdx) (offset : BitVec 13) (s : State) : Outcome :=
  branchIfDiffer rs1 rs2 offset s

/-- `BNE`: taken when the operands differ (R104). -/
def execBne (rs1 rs2 : RegIdx) (offset : BitVec 13) (s : State) : Outcome :=
  branchIfDiffer rs1 rs2 offset s

/-- Branch funct3 010: behaves as `BNE` (R105). -/
def execBranchFunct3_010 (rs1 rs2 : RegIdx) (offset : BitVec 13) (s : State) : Outcome :=
  branchIfDiffer rs1 rs2 offset s

/-- Branch funct3 011: behaves as `BNE` (R105). -/
def execBranchFunct3_011 (rs1 rs2 : RegIdx) (offset : BitVec 13) (s : State) : Outcome :=
  branchIfDiffer rs1 rs2 offset s

/-- The RISC-V BLT encoding, funct3 100: behaves as `BNE` (R105). -/
def execBltEncoding (rs1 rs2 : RegIdx) (offset : BitVec 13) (s : State) : Outcome :=
  branchIfDiffer rs1 rs2 offset s

/-- The RISC-V BGE encoding, funct3 101: behaves as `BNE` (R105). -/
def execBgeEncoding (rs1 rs2 : RegIdx) (offset : BitVec 13) (s : State) : Outcome :=
  branchIfDiffer rs1 rs2 offset s

/-- The RISC-V BLTU encoding, funct3 110: behaves as `BNE` (R105). -/
def execBltuEncoding (rs1 rs2 : RegIdx) (offset : BitVec 13) (s : State) : Outcome :=
  branchIfDiffer rs1 rs2 offset s

/-- The RISC-V BGEU encoding, funct3 111: behaves as `BNE` (R105). -/
def execBgeuEncoding (rs1 rs2 : RegIdx) (offset : BitVec 13) (s : State) : Outcome :=
  branchIfDiffer rs1 rs2 offset s

/-- `JALR`: rd takes pc + 4 and the pc takes x[rs1] + imm, x[rs1] as it stood at the start of the cycle, no bit cleared (R106). -/
def execJalr (rd rs1 : RegIdx) (imm : BitVec 12) (s : State) : Outcome :=
  .next ((s.setX rd s.pcPlus4).setPc (s.effectiveAddress rs1 imm))

end Sys2Proof.Machine
end

