-- ==== Sys2Proof/Machine/LoadStore.lean ====
section
/-! DEFINITION. Loads (opcode 0000011) and stores (opcode 0100011) (43_load_store.md R98 to R103). Only funct3 010 is the wide form;
the narrow load reads one byte and the narrow store writes two (20_memory.md R36). -/

namespace Sys2Proof.Machine

/-- The RISC-V LB encoding, funct3 000: the narrow form, as `LBU` (R100). -/
def execLbEncoding (rd rs1 : RegIdx) (imm : BitVec 12) (s : State) : Outcome :=
  loadInto rd (s.loadNarrow (s.effectiveAddress rs1 imm)) s

/-- The RISC-V LH encoding, funct3 001: the narrow form, as `LBU` (R100). -/
def execLhEncoding (rd rs1 : RegIdx) (imm : BitVec 12) (s : State) : Outcome :=
  loadInto rd (s.loadNarrow (s.effectiveAddress rs1 imm)) s

/-- `LW`: four bytes, little-endian, at any alignment (R98). -/
def execLw (rd rs1 : RegIdx) (imm : BitVec 12) (s : State) : Outcome :=
  loadInto rd (s.loadWide (s.effectiveAddress rs1 imm)) s

/-- Load funct3 011: the narrow form, as `LBU` (R100). -/
def execLoadFunct3_011 (rd rs1 : RegIdx) (imm : BitVec 12) (s : State) : Outcome :=
  loadInto rd (s.loadNarrow (s.effectiveAddress rs1 imm)) s

/-- `LBU`: one byte, zero-extended (R99). -/
def execLbu (rd rs1 : RegIdx) (imm : BitVec 12) (s : State) : Outcome :=
  loadInto rd (s.loadNarrow (s.effectiveAddress rs1 imm)) s

/-- The RISC-V LHU encoding, funct3 101: the narrow form, as `LBU` (R100). -/
def execLhuEncoding (rd rs1 : RegIdx) (imm : BitVec 12) (s : State) : Outcome :=
  loadInto rd (s.loadNarrow (s.effectiveAddress rs1 imm)) s

/-- Load funct3 110: the narrow form, as `LBU` (R100). -/
def execLoadFunct3_110 (rd rs1 : RegIdx) (imm : BitVec 12) (s : State) : Outcome :=
  loadInto rd (s.loadNarrow (s.effectiveAddress rs1 imm)) s

/-- Load funct3 111: the narrow form, as `LBU` (R100). -/
def execLoadFunct3_111 (rd rs1 : RegIdx) (imm : BitVec 12) (s : State) : Outcome :=
  loadInto rd (s.loadNarrow (s.effectiveAddress rs1 imm)) s

/-- The RISC-V SB encoding, funct3 000: the narrow write form, two bytes, as `SH` (R103). -/
def execSbEncoding (rs2 rs1 : RegIdx) (imm : BitVec 12) (s : State) : Outcome :=
  storeInto (s.storeNarrow (s.effectiveAddress rs1 imm) (s.x rs2)) s

/-- `SH`: the low two bytes of x[rs2] (R102). -/
def execSh (rs2 rs1 : RegIdx) (imm : BitVec 12) (s : State) : Outcome :=
  storeInto (s.storeNarrow (s.effectiveAddress rs1 imm) (s.x rs2)) s

/-- `SW`: the four bytes of x[rs2], little-endian, at any alignment (R101). -/
def execSw (rs2 rs1 : RegIdx) (imm : BitVec 12) (s : State) : Outcome :=
  storeInto (s.storeWide (s.effectiveAddress rs1 imm) (s.x rs2)) s

/-- Store funct3 011: the narrow write form, two bytes, as `SH` (R103). -/
def execStoreFunct3_011 (rs2 rs1 : RegIdx) (imm : BitVec 12) (s : State) : Outcome :=
  storeInto (s.storeNarrow (s.effectiveAddress rs1 imm) (s.x rs2)) s

/-- Store funct3 100: the narrow write form, two bytes, as `SH` (R103). -/
def execStoreFunct3_100 (rs2 rs1 : RegIdx) (imm : BitVec 12) (s : State) : Outcome :=
  storeInto (s.storeNarrow (s.effectiveAddress rs1 imm) (s.x rs2)) s

/-- Store funct3 101: the narrow write form, two bytes, as `SH` (R103). -/
def execStoreFunct3_101 (rs2 rs1 : RegIdx) (imm : BitVec 12) (s : State) : Outcome :=
  storeInto (s.storeNarrow (s.effectiveAddress rs1 imm) (s.x rs2)) s

/-- Store funct3 110: the narrow write form, two bytes, as `SH` (R103). -/
def execStoreFunct3_110 (rs2 rs1 : RegIdx) (imm : BitVec 12) (s : State) : Outcome :=
  storeInto (s.storeNarrow (s.effectiveAddress rs1 imm) (s.x rs2)) s

/-- Store funct3 111: the narrow write form, two bytes, as `SH` (R103). -/
def execStoreFunct3_111 (rs2 rs1 : RegIdx) (imm : BitVec 12) (s : State) : Outcome :=
  storeInto (s.storeNarrow (s.effectiveAddress rs1 imm) (s.x rs2)) s

end Sys2Proof.Machine
end

