-- ==== Sys2Proof/Machine/RegImm.lean ====
section
/-! DEFINITION. The register-immediate instructions, opcode 0010011 (42_register_immediate.md R94 to R97). Each writes rd, reads no
memory and advances the pc by 4. -/

namespace Sys2Proof.Machine

/-- `ADDI`: sum modulo 2^32 (R94). -/
def execAddi (rd rs1 : RegIdx) (imm : BitVec 12) (s : State) : Outcome :=
  writeBack rd (s.x rs1 + sext12 imm) s

/-- The RISC-V SLLI encoding, funct3 001: ALU Noop, so rd takes 0 (R97). -/
def execSlliEncoding (rd _rs1 : RegIdx) (_imm : BitVec 12) (s : State) : Outcome :=
  writeBack rd 0#32 s

/-- The RISC-V SLTI encoding, funct3 010: ALU Noop, so rd takes 0 (R97). -/
def execSltiEncoding (rd _rs1 : RegIdx) (_imm : BitVec 12) (s : State) : Outcome :=
  writeBack rd 0#32 s

/-- `SLTIU`: unsigned comparison with the sign-extended immediate (R96). -/
def execSltiu (rd rs1 : RegIdx) (imm : BitVec 12) (s : State) : Outcome :=
  writeBack rd (sltuValue (s.x rs1) (sext12 imm)) s

/-- The RISC-V XORI encoding, funct3 100: ALU Noop, so rd takes 0 (R97). -/
def execXoriEncoding (rd _rs1 : RegIdx) (_imm : BitVec 12) (s : State) : Outcome :=
  writeBack rd 0#32 s

/-- The RISC-V SRLI and SRAI encoding, funct3 101: ALU Noop, so rd takes 0 (R97). -/
def execSrliSraiEncoding (rd _rs1 : RegIdx) (_imm : BitVec 12) (s : State) : Outcome :=
  writeBack rd 0#32 s

/-- `ORI`: bitwise or, the only reach of the bitwise OR (R95). -/
def execOri (rd rs1 : RegIdx) (imm : BitVec 12) (s : State) : Outcome :=
  writeBack rd (s.x rs1 ||| sext12 imm) s

/-- The RISC-V ANDI encoding, funct3 111: ALU Noop, so rd takes 0 (R97). -/
def execAndiEncoding (rd _rs1 : RegIdx) (_imm : BitVec 12) (s : State) : Outcome :=
  writeBack rd 0#32 s

end Sys2Proof.Machine
end

