-- ==== Sys2Proof/Machine/RegReg.lean ====
section
/-! DEFINITION. The register-register instructions, opcode 0110011 (41_register_register.md R88 to R93). Each writes rd, reads
no memory and advances the pc by 4. -/

namespace Sys2Proof.Machine

/-- `ADD`: subtracts, as the source's table says; adds only under the switch `ADD_USES_BIT30` (R88, R68, 90_conflicts.md C1). -/
def execAdd (rd rs1 rs2 : RegIdx) (s : State) : Outcome :=
  writeBack rd (if s.config.addUsesBit30 then s.x rs1 + s.x rs2 else s.x rs1 - s.x rs2) s

/-- `SUB`: difference modulo 2^32, whatever the switch (R89). -/
def execSub (rd rs1 rs2 : RegIdx) (s : State) : Outcome :=
  writeBack rd (s.x rs1 - s.x rs2) s

/-- The RISC-V SLL encoding, funct3 001: ALU Noop, so rd takes 0 (R93). -/
def execSllEncoding (rd _rs1 _rs2 : RegIdx) (s : State) : Outcome :=
  writeBack rd 0#32 s

/-- The RISC-V SLT encoding, funct3 010: ALU Noop, so rd takes 0 (R93). -/
def execSltEncoding (rd _rs1 _rs2 : RegIdx) (s : State) : Outcome :=
  writeBack rd 0#32 s

/-- The RISC-V SLTU encoding, funct3 011: ALU Noop, so rd takes 0 (R93). -/
def execSltuEncoding (rd _rs1 _rs2 : RegIdx) (s : State) : Outcome :=
  writeBack rd 0#32 s

/-- The RISC-V XOR encoding, funct3 100: ALU Noop, so rd takes 0 (R93). -/
def execXorEncoding (rd _rs1 _rs2 : RegIdx) (s : State) : Outcome :=
  writeBack rd 0#32 s

/-- `SRA`, also the SRL encoding: arithmetic right shift by the low five bits of rs2 (R92). -/
def execSra (rd rs1 rs2 : RegIdx) (s : State) : Outcome :=
  writeBack rd (sraValue (s.x rs1) (s.x rs2)) s

/-- `OR`: out of the aluOp 10 table, so ALU Noop and rd takes 0 (R91, 90_conflicts.md C2). -/
def execOr (rd _rs1 _rs2 : RegIdx) (s : State) : Outcome :=
  writeBack rd 0#32 s

/-- `AND`: bitwise and (R90). -/
def execAnd (rd rs1 rs2 : RegIdx) (s : State) : Outcome :=
  writeBack rd (s.x rs1 &&& s.x rs2) s

end Sys2Proof.Machine
end

