-- ==== Sys2Proof/Machine/Unknown.lean ====
section
/-! DEFINITION. The Unknown-format words: every opcode but seven is a no-op that advances the pc by 4, writes no register and
reaches no memory (46_unrecognised.md R108). JAL neither links nor jumps, ECALL and EBREAK do not trap, FENCE orders
nothing, CSR and AMO words read and write nothing (R46, R47, R114, R117, R118). -/

namespace Sys2Proof.Machine

/-- Unknown opcode 0000000 (all-zero opcode (driver halt trigger) encoding) (no-op) (R108). -/
def execUnknown0000000 (s : State) : Outcome := advance s

/-- Unknown opcode 0000001 (no-op) (R108). -/
def execUnknown0000001 (s : State) : Outcome := advance s

/-- Unknown opcode 0000010 (no-op) (R108). -/
def execUnknown0000010 (s : State) : Outcome := advance s

/-- Unknown opcode 0000100 (no-op) (R108). -/
def execUnknown0000100 (s : State) : Outcome := advance s

/-- Unknown opcode 0000101 (no-op) (R108). -/
def execUnknown0000101 (s : State) : Outcome := advance s

/-- Unknown opcode 0000110 (no-op) (R108). -/
def execUnknown0000110 (s : State) : Outcome := advance s

/-- Unknown opcode 0000111 (LOAD-FP encoding) (no-op) (R108). -/
def execUnknown0000111 (s : State) : Outcome := advance s

/-- Unknown opcode 0001000 (no-op) (R108). -/
def execUnknown0001000 (s : State) : Outcome := advance s

/-- Unknown opcode 0001001 (no-op) (R108). -/
def execUnknown0001001 (s : State) : Outcome := advance s

/-- Unknown opcode 0001010 (no-op) (R108). -/
def execUnknown0001010 (s : State) : Outcome := advance s

/-- Unknown opcode 0001011 (custom-0 encoding) (no-op) (R108). -/
def execUnknown0001011 (s : State) : Outcome := advance s

/-- Unknown opcode 0001100 (no-op) (R108). -/
def execUnknown0001100 (s : State) : Outcome := advance s

/-- Unknown opcode 0001101 (no-op) (R108). -/
def execUnknown0001101 (s : State) : Outcome := advance s

/-- Unknown opcode 0001110 (no-op) (R108). -/
def execUnknown0001110 (s : State) : Outcome := advance s

/-- Unknown opcode 0001111 (FENCE/FENCE.I encoding) (no-op) (R108). -/
def execUnknown0001111 (s : State) : Outcome := advance s

/-- Unknown opcode 0010000 (no-op) (R108). -/
def execUnknown0010000 (s : State) : Outcome := advance s

/-- Unknown opcode 0010001 (no-op) (R108). -/
def execUnknown0010001 (s : State) : Outcome := advance s

/-- Unknown opcode 0010010 (no-op) (R108). -/
def execUnknown0010010 (s : State) : Outcome := advance s

/-- Unknown opcode 0010100 (no-op) (R108). -/
def execUnknown0010100 (s : State) : Outcome := advance s

/-- Unknown opcode 0010101 (no-op) (R108). -/
def execUnknown0010101 (s : State) : Outcome := advance s

/-- Unknown opcode 0010110 (no-op) (R108). -/
def execUnknown0010110 (s : State) : Outcome := advance s

/-- Unknown opcode 0010111 (AUIPC encoding) (no-op) (R108). -/
def execUnknown0010111 (s : State) : Outcome := advance s

/-- Unknown opcode 0011000 (no-op) (R108). -/
def execUnknown0011000 (s : State) : Outcome := advance s

/-- Unknown opcode 0011001 (no-op) (R108). -/
def execUnknown0011001 (s : State) : Outcome := advance s

/-- Unknown opcode 0011010 (no-op) (R108). -/
def execUnknown0011010 (s : State) : Outcome := advance s

/-- Unknown opcode 0011011 (no-op) (R108). -/
def execUnknown0011011 (s : State) : Outcome := advance s

/-- Unknown opcode 0011100 (no-op) (R108). -/
def execUnknown0011100 (s : State) : Outcome := advance s

/-- Unknown opcode 0011101 (no-op) (R108). -/
def execUnknown0011101 (s : State) : Outcome := advance s

/-- Unknown opcode 0011110 (no-op) (R108). -/
def execUnknown0011110 (s : State) : Outcome := advance s

/-- Unknown opcode 0011111 (no-op) (R108). -/
def execUnknown0011111 (s : State) : Outcome := advance s

/-- Unknown opcode 0100000 (no-op) (R108). -/
def execUnknown0100000 (s : State) : Outcome := advance s

/-- Unknown opcode 0100001 (no-op) (R108). -/
def execUnknown0100001 (s : State) : Outcome := advance s

/-- Unknown opcode 0100010 (no-op) (R108). -/
def execUnknown0100010 (s : State) : Outcome := advance s

/-- Unknown opcode 0100100 (no-op) (R108). -/
def execUnknown0100100 (s : State) : Outcome := advance s

/-- Unknown opcode 0100101 (no-op) (R108). -/
def execUnknown0100101 (s : State) : Outcome := advance s

/-- Unknown opcode 0100110 (no-op) (R108). -/
def execUnknown0100110 (s : State) : Outcome := advance s

/-- Unknown opcode 0100111 (STORE-FP encoding) (no-op) (R108). -/
def execUnknown0100111 (s : State) : Outcome := advance s

/-- Unknown opcode 0101000 (no-op) (R108). -/
def execUnknown0101000 (s : State) : Outcome := advance s

/-- Unknown opcode 0101001 (no-op) (R108). -/
def execUnknown0101001 (s : State) : Outcome := advance s

/-- Unknown opcode 0101010 (no-op) (R108). -/
def execUnknown0101010 (s : State) : Outcome := advance s

/-- Unknown opcode 0101011 (custom-1 encoding) (no-op) (R108). -/
def execUnknown0101011 (s : State) : Outcome := advance s

/-- Unknown opcode 0101100 (no-op) (R108). -/
def execUnknown0101100 (s : State) : Outcome := advance s

/-- Unknown opcode 0101101 (no-op) (R108). -/
def execUnknown0101101 (s : State) : Outcome := advance s

/-- Unknown opcode 0101110 (no-op) (R108). -/
def execUnknown0101110 (s : State) : Outcome := advance s

/-- Unknown opcode 0101111 (AMO encoding) (no-op) (R108). -/
def execUnknown0101111 (s : State) : Outcome := advance s

/-- Unknown opcode 0110000 (no-op) (R108). -/
def execUnknown0110000 (s : State) : Outcome := advance s

/-- Unknown opcode 0110001 (no-op) (R108). -/
def execUnknown0110001 (s : State) : Outcome := advance s

/-- Unknown opcode 0110010 (no-op) (R108). -/
def execUnknown0110010 (s : State) : Outcome := advance s

/-- Unknown opcode 0110100 (no-op) (R108). -/
def execUnknown0110100 (s : State) : Outcome := advance s

/-- Unknown opcode 0110101 (no-op) (R108). -/
def execUnknown0110101 (s : State) : Outcome := advance s

/-- Unknown opcode 0110110 (no-op) (R108). -/
def execUnknown0110110 (s : State) : Outcome := advance s

/-- Unknown opcode 0111000 (no-op) (R108). -/
def execUnknown0111000 (s : State) : Outcome := advance s

/-- Unknown opcode 0111001 (no-op) (R108). -/
def execUnknown0111001 (s : State) : Outcome := advance s

/-- Unknown opcode 0111010 (no-op) (R108). -/
def execUnknown0111010 (s : State) : Outcome := advance s

/-- Unknown opcode 0111011 (no-op) (R108). -/
def execUnknown0111011 (s : State) : Outcome := advance s

/-- Unknown opcode 0111100 (no-op) (R108). -/
def execUnknown0111100 (s : State) : Outcome := advance s

/-- Unknown opcode 0111101 (no-op) (R108). -/
def execUnknown0111101 (s : State) : Outcome := advance s

/-- Unknown opcode 0111110 (no-op) (R108). -/
def execUnknown0111110 (s : State) : Outcome := advance s

/-- Unknown opcode 0111111 (no-op) (R108). -/
def execUnknown0111111 (s : State) : Outcome := advance s

/-- Unknown opcode 1000000 (no-op) (R108). -/
def execUnknown1000000 (s : State) : Outcome := advance s

/-- Unknown opcode 1000001 (no-op) (R108). -/
def execUnknown1000001 (s : State) : Outcome := advance s

/-- Unknown opcode 1000010 (no-op) (R108). -/
def execUnknown1000010 (s : State) : Outcome := advance s

/-- Unknown opcode 1000011 (FMADD encoding) (no-op) (R108). -/
def execUnknown1000011 (s : State) : Outcome := advance s

/-- Unknown opcode 1000100 (no-op) (R108). -/
def execUnknown1000100 (s : State) : Outcome := advance s

/-- Unknown opcode 1000101 (no-op) (R108). -/
def execUnknown1000101 (s : State) : Outcome := advance s

/-- Unknown opcode 1000110 (no-op) (R108). -/
def execUnknown1000110 (s : State) : Outcome := advance s

/-- Unknown opcode 1000111 (FMSUB encoding) (no-op) (R108). -/
def execUnknown1000111 (s : State) : Outcome := advance s

/-- Unknown opcode 1001000 (no-op) (R108). -/
def execUnknown1001000 (s : State) : Outcome := advance s

/-- Unknown opcode 1001001 (no-op) (R108). -/
def execUnknown1001001 (s : State) : Outcome := advance s

/-- Unknown opcode 1001010 (no-op) (R108). -/
def execUnknown1001010 (s : State) : Outcome := advance s

/-- Unknown opcode 1001011 (FNMSUB encoding) (no-op) (R108). -/
def execUnknown1001011 (s : State) : Outcome := advance s

/-- Unknown opcode 1001100 (no-op) (R108). -/
def execUnknown1001100 (s : State) : Outcome := advance s

/-- Unknown opcode 1001101 (no-op) (R108). -/
def execUnknown1001101 (s : State) : Outcome := advance s

/-- Unknown opcode 1001110 (no-op) (R108). -/
def execUnknown1001110 (s : State) : Outcome := advance s

/-- Unknown opcode 1001111 (FNMADD encoding) (no-op) (R108). -/
def execUnknown1001111 (s : State) : Outcome := advance s

/-- Unknown opcode 1010000 (no-op) (R108). -/
def execUnknown1010000 (s : State) : Outcome := advance s

/-- Unknown opcode 1010001 (no-op) (R108). -/
def execUnknown1010001 (s : State) : Outcome := advance s

/-- Unknown opcode 1010010 (no-op) (R108). -/
def execUnknown1010010 (s : State) : Outcome := advance s

/-- Unknown opcode 1010011 (OP-FP encoding) (no-op) (R108). -/
def execUnknown1010011 (s : State) : Outcome := advance s

/-- Unknown opcode 1010100 (no-op) (R108). -/
def execUnknown1010100 (s : State) : Outcome := advance s

/-- Unknown opcode 1010101 (no-op) (R108). -/
def execUnknown1010101 (s : State) : Outcome := advance s

/-- Unknown opcode 1010110 (no-op) (R108). -/
def execUnknown1010110 (s : State) : Outcome := advance s

/-- Unknown opcode 1010111 (no-op) (R108). -/
def execUnknown1010111 (s : State) : Outcome := advance s

/-- Unknown opcode 1011000 (no-op) (R108). -/
def execUnknown1011000 (s : State) : Outcome := advance s

/-- Unknown opcode 1011001 (no-op) (R108). -/
def execUnknown1011001 (s : State) : Outcome := advance s

/-- Unknown opcode 1011010 (no-op) (R108). -/
def execUnknown1011010 (s : State) : Outcome := advance s

/-- Unknown opcode 1011011 (custom-2 encoding) (no-op) (R108). -/
def execUnknown1011011 (s : State) : Outcome := advance s

/-- Unknown opcode 1011100 (no-op) (R108). -/
def execUnknown1011100 (s : State) : Outcome := advance s

/-- Unknown opcode 1011101 (no-op) (R108). -/
def execUnknown1011101 (s : State) : Outcome := advance s

/-- Unknown opcode 1011110 (no-op) (R108). -/
def execUnknown1011110 (s : State) : Outcome := advance s

/-- Unknown opcode 1011111 (no-op) (R108). -/
def execUnknown1011111 (s : State) : Outcome := advance s

/-- Unknown opcode 1100000 (no-op) (R108). -/
def execUnknown1100000 (s : State) : Outcome := advance s

/-- Unknown opcode 1100001 (no-op) (R108). -/
def execUnknown1100001 (s : State) : Outcome := advance s

/-- Unknown opcode 1100010 (no-op) (R108). -/
def execUnknown1100010 (s : State) : Outcome := advance s

/-- Unknown opcode 1100100 (no-op) (R108). -/
def execUnknown1100100 (s : State) : Outcome := advance s

/-- Unknown opcode 1100101 (no-op) (R108). -/
def execUnknown1100101 (s : State) : Outcome := advance s

/-- Unknown opcode 1100110 (no-op) (R108). -/
def execUnknown1100110 (s : State) : Outcome := advance s

/-- Unknown opcode 1101000 (no-op) (R108). -/
def execUnknown1101000 (s : State) : Outcome := advance s

/-- Unknown opcode 1101001 (no-op) (R108). -/
def execUnknown1101001 (s : State) : Outcome := advance s

/-- Unknown opcode 1101010 (no-op) (R108). -/
def execUnknown1101010 (s : State) : Outcome := advance s

/-- Unknown opcode 1101011 (no-op) (R108). -/
def execUnknown1101011 (s : State) : Outcome := advance s

/-- Unknown opcode 1101100 (no-op) (R108). -/
def execUnknown1101100 (s : State) : Outcome := advance s

/-- Unknown opcode 1101101 (no-op) (R108). -/
def execUnknown1101101 (s : State) : Outcome := advance s

/-- Unknown opcode 1101110 (no-op) (R108). -/
def execUnknown1101110 (s : State) : Outcome := advance s

/-- Unknown opcode 1101111 (JAL encoding) (no-op) (R108). -/
def execUnknown1101111 (s : State) : Outcome := advance s

/-- Unknown opcode 1110000 (no-op) (R108). -/
def execUnknown1110000 (s : State) : Outcome := advance s

/-- Unknown opcode 1110001 (no-op) (R108). -/
def execUnknown1110001 (s : State) : Outcome := advance s

/-- Unknown opcode 1110010 (no-op) (R108). -/
def execUnknown1110010 (s : State) : Outcome := advance s

/-- Unknown opcode 1110011 (SYSTEM encoding) (no-op) (R108). -/
def execUnknown1110011 (s : State) : Outcome := advance s

/-- Unknown opcode 1110100 (no-op) (R108). -/
def execUnknown1110100 (s : State) : Outcome := advance s

/-- Unknown opcode 1110101 (no-op) (R108). -/
def execUnknown1110101 (s : State) : Outcome := advance s

/-- Unknown opcode 1110110 (no-op) (R108). -/
def execUnknown1110110 (s : State) : Outcome := advance s

/-- Unknown opcode 1110111 (no-op) (R108). -/
def execUnknown1110111 (s : State) : Outcome := advance s

/-- Unknown opcode 1111000 (no-op) (R108). -/
def execUnknown1111000 (s : State) : Outcome := advance s

/-- Unknown opcode 1111001 (no-op) (R108). -/
def execUnknown1111001 (s : State) : Outcome := advance s

/-- Unknown opcode 1111010 (no-op) (R108). -/
def execUnknown1111010 (s : State) : Outcome := advance s

/-- Unknown opcode 1111011 (custom-3 encoding) (no-op) (R108). -/
def execUnknown1111011 (s : State) : Outcome := advance s

/-- Unknown opcode 1111100 (no-op) (R108). -/
def execUnknown1111100 (s : State) : Outcome := advance s

/-- Unknown opcode 1111101 (no-op) (R108). -/
def execUnknown1111101 (s : State) : Outcome := advance s

/-- Unknown opcode 1111110 (no-op) (R108). -/
def execUnknown1111110 (s : State) : Outcome := advance s

/-- Unknown opcode 1111111 (no-op) (R108). -/
def execUnknown1111111 (s : State) : Outcome := advance s

end Sys2Proof.Machine
end

