-- ==== Sys2Proof/Machine/Upper.lean ====
section
/-! DEFINITION. Upper immediate (45_upper_immediate.md R107). -/

namespace Sys2Proof.Machine

/-- `LUI`: the immediate in bits 31:12, the low 12 bits 0 (R107). -/
def execLui (rd : RegIdx) (imm20 : BitVec 20) (s : State) : Outcome :=
  writeBack rd (upperImm imm20) s

end Sys2Proof.Machine
end

