-- ==== Sys2Proof/Machine/Dispatch.lean ====
section
/-! DEFINITION. The meaning of each instruction: one arm per constructor, each one call of its meaning. -/

namespace Sys2Proof.Machine

def exec (i : Instr) (s : State) : Host.Outcome State Fault Refusal :=
  match i with
  | .add rd rs1 rs2 => Sys2Proof.Machine.execAdd rd rs1 rs2 s
  | .sub rd rs1 rs2 => Sys2Proof.Machine.execSub rd rs1 rs2 s
  | .sllEncoding rd rs1 rs2 => Sys2Proof.Machine.execSllEncoding rd rs1 rs2 s
  | .sltEncoding rd rs1 rs2 => Sys2Proof.Machine.execSltEncoding rd rs1 rs2 s
  | .sltuEncoding rd rs1 rs2 => Sys2Proof.Machine.execSltuEncoding rd rs1 rs2 s
  | .xorEncoding rd rs1 rs2 => Sys2Proof.Machine.execXorEncoding rd rs1 rs2 s
  | .sra rd rs1 rs2 => Sys2Proof.Machine.execSra rd rs1 rs2 s
  | .or rd rs1 rs2 => Sys2Proof.Machine.execOr rd rs1 rs2 s
  | .and rd rs1 rs2 => Sys2Proof.Machine.execAnd rd rs1 rs2 s
  | .addi rd rs1 imm => Sys2Proof.Machine.execAddi rd rs1 imm s
  | .slliEncoding rd rs1 imm => Sys2Proof.Machine.execSlliEncoding rd rs1 imm s
  | .sltiEncoding rd rs1 imm => Sys2Proof.Machine.execSltiEncoding rd rs1 imm s
  | .sltiu rd rs1 imm => Sys2Proof.Machine.execSltiu rd rs1 imm s
  | .xoriEncoding rd rs1 imm => Sys2Proof.Machine.execXoriEncoding rd rs1 imm s
  | .srliSraiEncoding rd rs1 imm => Sys2Proof.Machine.execSrliSraiEncoding rd rs1 imm s
  | .ori rd rs1 imm => Sys2Proof.Machine.execOri rd rs1 imm s
  | .andiEncoding rd rs1 imm => Sys2Proof.Machine.execAndiEncoding rd rs1 imm s
  | .lbEncoding rd rs1 imm => Sys2Proof.Machine.execLbEncoding rd rs1 imm s
  | .lhEncoding rd rs1 imm => Sys2Proof.Machine.execLhEncoding rd rs1 imm s
  | .lw rd rs1 imm => Sys2Proof.Machine.execLw rd rs1 imm s
  | .loadFunct3_011 rd rs1 imm => Sys2Proof.Machine.execLoadFunct3_011 rd rs1 imm s
  | .lbu rd rs1 imm => Sys2Proof.Machine.execLbu rd rs1 imm s
  | .lhuEncoding rd rs1 imm => Sys2Proof.Machine.execLhuEncoding rd rs1 imm s
  | .loadFunct3_110 rd rs1 imm => Sys2Proof.Machine.execLoadFunct3_110 rd rs1 imm s
  | .loadFunct3_111 rd rs1 imm => Sys2Proof.Machine.execLoadFunct3_111 rd rs1 imm s
  | .sbEncoding rs2 rs1 imm => Sys2Proof.Machine.execSbEncoding rs2 rs1 imm s
  | .sh rs2 rs1 imm => Sys2Proof.Machine.execSh rs2 rs1 imm s
  | .sw rs2 rs1 imm => Sys2Proof.Machine.execSw rs2 rs1 imm s
  | .storeFunct3_011 rs2 rs1 imm => Sys2Proof.Machine.execStoreFunct3_011 rs2 rs1 imm s
  | .storeFunct3_100 rs2 rs1 imm => Sys2Proof.Machine.execStoreFunct3_100 rs2 rs1 imm s
  | .storeFunct3_101 rs2 rs1 imm => Sys2Proof.Machine.execStoreFunct3_101 rs2 rs1 imm s
  | .storeFunct3_110 rs2 rs1 imm => Sys2Proof.Machine.execStoreFunct3_110 rs2 rs1 imm s
  | .storeFunct3_111 rs2 rs1 imm => Sys2Proof.Machine.execStoreFunct3_111 rs2 rs1 imm s
  | .beqEncoding rs1 rs2 offset => Sys2Proof.Machine.execBeqEncoding rs1 rs2 offset s
  | .bne rs1 rs2 offset => Sys2Proof.Machine.execBne rs1 rs2 offset s
  | .branchFunct3_010 rs1 rs2 offset => Sys2Proof.Machine.execBranchFunct3_010 rs1 rs2 offset s
  | .branchFunct3_011 rs1 rs2 offset => Sys2Proof.Machine.execBranchFunct3_011 rs1 rs2 offset s
  | .bltEncoding rs1 rs2 offset => Sys2Proof.Machine.execBltEncoding rs1 rs2 offset s
  | .bgeEncoding rs1 rs2 offset => Sys2Proof.Machine.execBgeEncoding rs1 rs2 offset s
  | .bltuEncoding rs1 rs2 offset => Sys2Proof.Machine.execBltuEncoding rs1 rs2 offset s
  | .bgeuEncoding rs1 rs2 offset => Sys2Proof.Machine.execBgeuEncoding rs1 rs2 offset s
  | .jalr rd rs1 imm => Sys2Proof.Machine.execJalr rd rs1 imm s
  | .lui rd imm20 => Sys2Proof.Machine.execLui rd imm20 s
  | .unknown0000000 => Sys2Proof.Machine.execUnknown0000000 s
  | .unknown0000001 => Sys2Proof.Machine.execUnknown0000001 s
  | .unknown0000010 => Sys2Proof.Machine.execUnknown0000010 s
  | .unknown0000100 => Sys2Proof.Machine.execUnknown0000100 s
  | .unknown0000101 => Sys2Proof.Machine.execUnknown0000101 s
  | .unknown0000110 => Sys2Proof.Machine.execUnknown0000110 s
  | .unknown0000111 => Sys2Proof.Machine.execUnknown0000111 s
  | .unknown0001000 => Sys2Proof.Machine.execUnknown0001000 s
  | .unknown0001001 => Sys2Proof.Machine.execUnknown0001001 s
  | .unknown0001010 => Sys2Proof.Machine.execUnknown0001010 s
  | .unknown0001011 => Sys2Proof.Machine.execUnknown0001011 s
  | .unknown0001100 => Sys2Proof.Machine.execUnknown0001100 s
  | .unknown0001101 => Sys2Proof.Machine.execUnknown0001101 s
  | .unknown0001110 => Sys2Proof.Machine.execUnknown0001110 s
  | .unknown0001111 => Sys2Proof.Machine.execUnknown0001111 s
  | .unknown0010000 => Sys2Proof.Machine.execUnknown0010000 s
  | .unknown0010001 => Sys2Proof.Machine.execUnknown0010001 s
  | .unknown0010010 => Sys2Proof.Machine.execUnknown0010010 s
  | .unknown0010100 => Sys2Proof.Machine.execUnknown0010100 s
  | .unknown0010101 => Sys2Proof.Machine.execUnknown0010101 s
  | .unknown0010110 => Sys2Proof.Machine.execUnknown0010110 s
  | .unknown0010111 => Sys2Proof.Machine.execUnknown0010111 s
  | .unknown0011000 => Sys2Proof.Machine.execUnknown0011000 s
  | .unknown0011001 => Sys2Proof.Machine.execUnknown0011001 s
  | .unknown0011010 => Sys2Proof.Machine.execUnknown0011010 s
  | .unknown0011011 => Sys2Proof.Machine.execUnknown0011011 s
  | .unknown0011100 => Sys2Proof.Machine.execUnknown0011100 s
  | .unknown0011101 => Sys2Proof.Machine.execUnknown0011101 s
  | .unknown0011110 => Sys2Proof.Machine.execUnknown0011110 s
  | .unknown0011111 => Sys2Proof.Machine.execUnknown0011111 s
  | .unknown0100000 => Sys2Proof.Machine.execUnknown0100000 s
  | .unknown0100001 => Sys2Proof.Machine.execUnknown0100001 s
  | .unknown0100010 => Sys2Proof.Machine.execUnknown0100010 s
  | .unknown0100100 => Sys2Proof.Machine.execUnknown0100100 s
  | .unknown0100101 => Sys2Proof.Machine.execUnknown0100101 s
  | .unknown0100110 => Sys2Proof.Machine.execUnknown0100110 s
  | .unknown0100111 => Sys2Proof.Machine.execUnknown0100111 s
  | .unknown0101000 => Sys2Proof.Machine.execUnknown0101000 s
  | .unknown0101001 => Sys2Proof.Machine.execUnknown0101001 s
  | .unknown0101010 => Sys2Proof.Machine.execUnknown0101010 s
  | .unknown0101011 => Sys2Proof.Machine.execUnknown0101011 s
  | .unknown0101100 => Sys2Proof.Machine.execUnknown0101100 s
  | .unknown0101101 => Sys2Proof.Machine.execUnknown0101101 s
  | .unknown0101110 => Sys2Proof.Machine.execUnknown0101110 s
  | .unknown0101111 => Sys2Proof.Machine.execUnknown0101111 s
  | .unknown0110000 => Sys2Proof.Machine.execUnknown0110000 s
  | .unknown0110001 => Sys2Proof.Machine.execUnknown0110001 s
  | .unknown0110010 => Sys2Proof.Machine.execUnknown0110010 s
  | .unknown0110100 => Sys2Proof.Machine.execUnknown0110100 s
  | .unknown0110101 => Sys2Proof.Machine.execUnknown0110101 s
  | .unknown0110110 => Sys2Proof.Machine.execUnknown0110110 s
  | .unknown0111000 => Sys2Proof.Machine.execUnknown0111000 s
  | .unknown0111001 => Sys2Proof.Machine.execUnknown0111001 s
  | .unknown0111010 => Sys2Proof.Machine.execUnknown0111010 s
  | .unknown0111011 => Sys2Proof.Machine.execUnknown0111011 s
  | .unknown0111100 => Sys2Proof.Machine.execUnknown0111100 s
  | .unknown0111101 => Sys2Proof.Machine.execUnknown0111101 s
  | .unknown0111110 => Sys2Proof.Machine.execUnknown0111110 s
  | .unknown0111111 => Sys2Proof.Machine.execUnknown0111111 s
  | .unknown1000000 => Sys2Proof.Machine.execUnknown1000000 s
  | .unknown1000001 => Sys2Proof.Machine.execUnknown1000001 s
  | .unknown1000010 => Sys2Proof.Machine.execUnknown1000010 s
  | .unknown1000011 => Sys2Proof.Machine.execUnknown1000011 s
  | .unknown1000100 => Sys2Proof.Machine.execUnknown1000100 s
  | .unknown1000101 => Sys2Proof.Machine.execUnknown1000101 s
  | .unknown1000110 => Sys2Proof.Machine.execUnknown1000110 s
  | .unknown1000111 => Sys2Proof.Machine.execUnknown1000111 s
  | .unknown1001000 => Sys2Proof.Machine.execUnknown1001000 s
  | .unknown1001001 => Sys2Proof.Machine.execUnknown1001001 s
  | .unknown1001010 => Sys2Proof.Machine.execUnknown1001010 s
  | .unknown1001011 => Sys2Proof.Machine.execUnknown1001011 s
  | .unknown1001100 => Sys2Proof.Machine.execUnknown1001100 s
  | .unknown1001101 => Sys2Proof.Machine.execUnknown1001101 s
  | .unknown1001110 => Sys2Proof.Machine.execUnknown1001110 s
  | .unknown1001111 => Sys2Proof.Machine.execUnknown1001111 s
  | .unknown1010000 => Sys2Proof.Machine.execUnknown1010000 s
  | .unknown1010001 => Sys2Proof.Machine.execUnknown1010001 s
  | .unknown1010010 => Sys2Proof.Machine.execUnknown1010010 s
  | .unknown1010011 => Sys2Proof.Machine.execUnknown1010011 s
  | .unknown1010100 => Sys2Proof.Machine.execUnknown1010100 s
  | .unknown1010101 => Sys2Proof.Machine.execUnknown1010101 s
  | .unknown1010110 => Sys2Proof.Machine.execUnknown1010110 s
  | .unknown1010111 => Sys2Proof.Machine.execUnknown1010111 s
  | .unknown1011000 => Sys2Proof.Machine.execUnknown1011000 s
  | .unknown1011001 => Sys2Proof.Machine.execUnknown1011001 s
  | .unknown1011010 => Sys2Proof.Machine.execUnknown1011010 s
  | .unknown1011011 => Sys2Proof.Machine.execUnknown1011011 s
  | .unknown1011100 => Sys2Proof.Machine.execUnknown1011100 s
  | .unknown1011101 => Sys2Proof.Machine.execUnknown1011101 s
  | .unknown1011110 => Sys2Proof.Machine.execUnknown1011110 s
  | .unknown1011111 => Sys2Proof.Machine.execUnknown1011111 s
  | .unknown1100000 => Sys2Proof.Machine.execUnknown1100000 s
  | .unknown1100001 => Sys2Proof.Machine.execUnknown1100001 s
  | .unknown1100010 => Sys2Proof.Machine.execUnknown1100010 s
  | .unknown1100100 => Sys2Proof.Machine.execUnknown1100100 s
  | .unknown1100101 => Sys2Proof.Machine.execUnknown1100101 s
  | .unknown1100110 => Sys2Proof.Machine.execUnknown1100110 s
  | .unknown1101000 => Sys2Proof.Machine.execUnknown1101000 s
  | .unknown1101001 => Sys2Proof.Machine.execUnknown1101001 s
  | .unknown1101010 => Sys2Proof.Machine.execUnknown1101010 s
  | .unknown1101011 => Sys2Proof.Machine.execUnknown1101011 s
  | .unknown1101100 => Sys2Proof.Machine.execUnknown1101100 s
  | .unknown1101101 => Sys2Proof.Machine.execUnknown1101101 s
  | .unknown1101110 => Sys2Proof.Machine.execUnknown1101110 s
  | .unknown1101111 => Sys2Proof.Machine.execUnknown1101111 s
  | .unknown1110000 => Sys2Proof.Machine.execUnknown1110000 s
  | .unknown1110001 => Sys2Proof.Machine.execUnknown1110001 s
  | .unknown1110010 => Sys2Proof.Machine.execUnknown1110010 s
  | .unknown1110011 => Sys2Proof.Machine.execUnknown1110011 s
  | .unknown1110100 => Sys2Proof.Machine.execUnknown1110100 s
  | .unknown1110101 => Sys2Proof.Machine.execUnknown1110101 s
  | .unknown1110110 => Sys2Proof.Machine.execUnknown1110110 s
  | .unknown1110111 => Sys2Proof.Machine.execUnknown1110111 s
  | .unknown1111000 => Sys2Proof.Machine.execUnknown1111000 s
  | .unknown1111001 => Sys2Proof.Machine.execUnknown1111001 s
  | .unknown1111010 => Sys2Proof.Machine.execUnknown1111010 s
  | .unknown1111011 => Sys2Proof.Machine.execUnknown1111011 s
  | .unknown1111100 => Sys2Proof.Machine.execUnknown1111100 s
  | .unknown1111101 => Sys2Proof.Machine.execUnknown1111101 s
  | .unknown1111110 => Sys2Proof.Machine.execUnknown1111110 s
  | .unknown1111111 => Sys2Proof.Machine.execUnknown1111111 s

end Sys2Proof.Machine
end

