-- ==== Sys2Proof/Machine/Step.lean ====
section
/-! DEFINITION. One cycle of the block (40_datapath.md R83): fetch, decode, execute. -/

namespace Sys2Proof.Machine

/-- One cycle (R83). A faulted state is final (R110): it answers its mark again. Otherwise the word at the pc is
fetched (R41), decoded and executed; a fetch fault stops the cycle before any decode (R111). The block never halts
itself (R86, R127): the end of a run is the driver's, in Machine/Driver.lean. -/
def step (s : State) : Host.Outcome State Fault Refusal :=
  match s.faultMark with
  | some f => .fault f
  | none =>
    match fetchWord s with
    | .error f => .fault f
    | .ok w => exec (decode w) s

/-- The state with an opcode-table word as the instruction the next step fetches: its low `nbits` bits, zero above,
placed at the pc of instruction memory (R25, R125). -/
def State.withFetchWord (s : State) (nbits w : Nat) : State := placeWord s (BitVec.ofNat 32 (w % 2 ^ nbits))

end Sys2Proof.Machine
end

