-- ==== Sys2Proof/Machine/Datapath.lean ====
section
/-! DEFINITION. The blocks of the datapath as the spec draws them: immediate generator, controller, ALU control
(30_encoding.md sections 3 to 5), ALU, operand and write-back selection, pc sequencer and the cycle (40_datapath.md). The
cycle here works on the raw word and its control bundle and knows no instruction; that it is the same machine as `step`
is a statement of Certificates/Slice0/Obligations.lean. The interfaces of R18, R32, R70, R75, R82 and R87 are the
arguments and results of these functions; their outputs are combinational and no part of the state (R29). -/

namespace Sys2Proof.Machine.Datapath

/-- The `immediate_generator` (R56): a pure function of the word and its format, by R57 (I and J), R58, R59, R60 and
R61 (R and Unknown: 0). -/
def immGen (w : Word) (fmt : Format) : Word :=
  match fmt with
  | .I | .J => sext12 (immIField w)
  | .S => sext12 (immSField w)
  | .B => sext13 (immBField w)
  | .U => upperImm (immUField w)
  | .R | .Unknown => 0#32

/-- The control-signal bundle (R12, R62). One is produced per opcode and consumed in the same cycle (R29). -/
structure Bundle where
  jalr : Bool
  lui : Bool
  branch : Bool
  memRead : Bool
  memToReg : Bool
  memWrite : Bool
  aluSrc : Bool
  regWrite : Bool
  aluOp : BitVec 2
  deriving DecidableEq, Repr

/-- The default row: "all-zero/no-op signals" (R63). -/
def Bundle.default : Bundle :=
  { jalr := false, lui := false, branch := false, memRead := false, memToReg := false, memWrite := false,
    aluSrc := false, regWrite := false, aluOp := 0b00#2 }

/-- The Controller: a pure total lookup from the opcode to the bundle, the seven rows of R62 and the default of R63.
Each row names its 1 signals and its aluOp; every other signal of it is 0. -/
def control (op : BitVec 7) : Bundle :=
  if op = 0b0110011#7 then { Bundle.default with regWrite := true, aluOp := 0b10#2 }
  else if op = 0b0010011#7 then { Bundle.default with aluSrc := true, regWrite := true, aluOp := 0b11#2 }
  else if op = 0b0000011#7 then
    { Bundle.default with memRead := true, memToReg := true, aluSrc := true, regWrite := true }
  else if op = 0b0100011#7 then { Bundle.default with memWrite := true, aluSrc := true }
  else if op = 0b1100011#7 then { Bundle.default with branch := true, aluOp := 0b01#2 }
  else if op = 0b1100111#7 then { Bundle.default with jalr := true, aluSrc := true, regWrite := true }
  else if op = 0b0110111#7 then { Bundle.default with lui := true, aluSrc := true, regWrite := true }
  else Bundle.default

/-- The closed variant of ALU operations (R12, R65). -/
inductive AluOperation
  | Add | Sub | And | Or | Sra | Sltu | Noop
  deriving DecidableEq, Repr

/-- The ALU Control (R65 to R69): aluOp 00 adds, 01 subtracts, 10 and 11 go by funct3, out of table is Noop. The funct7
bit enters only under the switch `ADD_USES_BIT30` (R68). -/
def aluControl (addUsesBit30 : Bool) (aluOp : BitVec 2) (funct3 : BitVec 3) (f7b30 : Bool) : AluOperation :=
  if aluOp = 0b00#2 then .Add
  else if aluOp = 0b01#2 then .Sub
  else if aluOp = 0b10#2 then
    if funct3 = 0b000#3 then (if addUsesBit30 && !f7b30 then .Add else .Sub)
    else if funct3 = 0b111#3 then .And
    else if funct3 = 0b101#3 then .Sra
    else .Noop
  else
    if funct3 = 0b000#3 then .Add
    else if funct3 = 0b110#3 then .Or
    else if funct3 = 0b011#3 then .Sltu
    else .Noop

/-- The `alu`'s result (R76, R77): the second operand when isLUI is set, else by operation. -/
def aluResult (op1 op2 : Word) (op : AluOperation) (isLUI : Bool) : Word :=
  if isLUI then op2
  else match op with
    | .Add => op1 + op2
    | .Sub => op1 - op2
    | .And => op1 &&& op2
    | .Or => op1 ||| op2
    | .Sra => sraValue op1 op2
    | .Sltu => sltuValue op1 op2
    | .Noop => 0#32

/-- The `alu`: its result and the zero flag of that final result (R75, R78). -/
def alu (op1 op2 : Word) (op : AluOperation) (isLUI : Bool) : Word × Bool :=
  (aluResult op1 op2 op isLUI, zeroFlag (aluResult op1 op2 op isLUI))

/-- The read port of `data_memory` (R34, R40): 0 and never checked when disabled, else the wide or the narrow form by
funct3 == 010. -/
def dataRead (s : State) (addr : Word) (memRead : Bool) (widthSel : BitVec 3) : Except Fault Word :=
  if !memRead then .ok 0#32
  else if widthSel = 0b010#3 then s.loadWide addr
  else s.loadNarrow addr

/-- The write port of `data_memory` (R35, R40): nothing and never checked when disabled, else the wide or the narrow
form by funct3 == 010 (decision D10). -/
def dataWrite (s : State) (addr value : Word) (memWrite : Bool) (widthSel : BitVec 3) : Except Fault Memory :=
  if !memWrite then .ok s.dmem
  else if widthSel = 0b010#3 then s.storeWide addr value
  else s.storeNarrow addr value

/-- Write-back selection (R80): the memory value for a load, pc + 4 for jalr, else the ALU result. -/
def writeBackValue (c : Bundle) (rdata result pcPlus4 : Word) : Word :=
  if c.jalr then pcPlus4 else if c.memToReg then rdata else result

/-- The `pc_sequencer` (R81, R82). -/
def nextPc (pc imm rs1val : Word) (branch zero jalr : Bool) : Word :=
  if branch && !zero then pc + imm
  else if jalr then rs1val + imm
  else pc + 4#32

/-- Steps 2 to 7 of the cycle on a fetched word (R83). Reads see the state at the start of the cycle; the three writes
take effect together, and none does if a memory port faults (R84). -/
def execWord (w : Word) (s : State) : Outcome :=
  let opcode := opcodeField w
  let imm := immGen w (Format.ofOpcode opcode)
  let c := control opcode
  let op := aluControl s.config.addUsesBit30 c.aluOp (funct3Field w) (funct7Bit w)
  let a := s.x (rs1Field w)
  let b := s.x (rs2Field w)
  let op2 := if c.aluSrc then imm else b
  let r := alu a op2 op c.lui
  match dataRead s r.1 c.memRead (funct3Field w), dataWrite s r.1 b c.memWrite (funct3Field w) with
  | .error f, _ => .fault f
  | _, .error f => .fault f
  | .ok rdata, .ok dmem =>
    .next (((s.writePort (rdField w) (writeBackValue c rdata r.1 s.pcPlus4) c.regWrite).setDmem dmem).setPc
      (nextPc s.pc imm a c.branch r.2 c.jalr))

/-- The whole cycle (R83), with a faulted state final (R110) and a fetch fault before any decode (R111). -/
def cycle (s : State) : Outcome :=
  match s.faultMark with
  | some f => .fault f
  | none =>
    match fetchWord s with
    | .error f => .fault f
    | .ok w => execWord w s

end Sys2Proof.Machine.Datapath
end

