-- ==== Sys2Proof/Machine/Driver.lean ====
section
/-! DEFINITION. The driver's side: construction with an image (70_reset_and_hazards.md R123, R125), the halt test and the
end of a run (R127), and what the host reads after it (R128). The block itself never halts (R86). -/

namespace Sys2Proof.Machine

/-- Construction, which is this hardware's reset (R123): the reset state under a configuration, with byte i of the image
at instruction address i (R125). A launch with an image longer than instruction memory is not modelled (decision D19). -/
def construct (config : Config) (image : List Byte) : Option State :=
  if image.length ≤ config.imemSize then
    some { State.reset with
      config := config, imem := Memory.writeBytes [] 0 image, imageLen := image.length }
  else none

/-- What the driver's halt test answers (R127). -/
inductive HaltTest
  | halted
  | running
  | faulted (f : Fault)
  deriving DecidableEq, Repr

/-- `halted(s)` (R127, decision D12): the pc at or past the image length, tested first and without a fetch; else the
all-zero opcode at the pc, whose test is a fetch and can fault. -/
def haltTest (s : State) : HaltTest :=
  if s.imageLen ≤ s.pc.toNat then .halted
  else match fetchWord s with
    | .error f => .faulted f
    | .ok w => if opcodeField w = 0#7 then .halted else .running

/-- How far a run came. A faulted end is not a normal end (R110); `unfinished` is a run the fuel did not reach the end of. -/
inductive RunResult
  | final (s : State)
  | faulted (s : State)
  | refused (r : Refusal)
  | unfinished (s : State)
  deriving DecidableEq, Repr

/-- `run(s)` (R127), at most `fuel` cycles of it: the halt test before each cycle, and the fault mark set on the state
before a faulting cycle (R110, R113). -/
def run (fuel : Nat) (s : State) : RunResult :=
  if s.faultMark.isSome then .faulted s
  else match haltTest s with
    | .halted => .final s
    | .faulted f => .faulted (s.withFaultMark f)
    | .running =>
      match fuel with
      | 0 => .unfinished s
      | fuel + 1 =>
        match step s with
        | .next t => run fuel t
        | .fault f => .faulted (s.withFaultMark f)
        | .refused r => .refused r

/-- The two registers a run reports, x10 and x11 (R13, R128, decision D18). -/
def reportedResults (s : State) : Word × Word := (s.x 10#5, s.x 11#5)

end Sys2Proof.Machine
end

