-- ==== Sys2Proof/Safety.lean ====
section
/-! DEFINITION. The terms the claims are stated in: what a cycle's result is, the invariant of the machine, runs, and the
bytes a run stores. -/

namespace Sys2Proof.Safety

open Sys2Proof.Machine

/-! ### Frames: every part of the state a cycle leaves as it was -/

/-- What no cycle changes: the configuration, instruction memory and the image length (R48), and the fault mark. -/
def RunParametersKept (s t : State) : Prop :=
  t.config = s.config ∧ t.imem = s.imem ∧ t.imageLen = s.imageLen ∧ t.faultMark = s.faultMark

/-- Every register reads as before. -/
def RegistersKept (s t : State) : Prop := ∀ i : RegIdx, t.x i = s.x i

/-- `rd` reads as `v`, every other register as before, and x0 as 0 whatever `rd` is (R14, R16). -/
def RegistersAfterWrite (s t : State) (rd : RegIdx) (v : Word) : Prop :=
  ∀ i : RegIdx, t.x i = if i = 0#5 then 0#32 else if i = rd then v else s.x i

/-- Every byte of data memory reads as before. -/
def DataMemoryKept (s t : State) : Prop := ∀ a : Nat, t.dmem.read a = s.dmem.read a

/-- The `n` bytes from `ea` hold the low `n` bytes of `v`, least significant first, and every other byte reads as before. -/
def DataMemoryAfterStore (s t : State) (ea : Word) (n : Nat) (v : Word) : Prop :=
  (∀ k, k < n → t.dmem.read (ea.toNat + k) = v.extractLsb' (8 * k) 8) ∧
  ∀ a, (a < ea.toNat ∨ ea.toNat + n ≤ a) → t.dmem.read a = s.dmem.read a

/-- A cycle whose effect is one register write and the advance of the pc by 4. -/
def RegisterResult (s t : State) (rd : RegIdx) (v : Word) : Prop :=
  RegistersAfterWrite s t rd v ∧ t.pc = s.pc + 4#32 ∧ DataMemoryKept s t ∧ RunParametersKept s t

/-- A cycle whose effect is one store and the advance of the pc by 4. -/
def StoreResult (s t : State) (ea : Word) (n : Nat) (v : Word) : Prop :=
  RegistersKept s t ∧ t.pc = s.pc + 4#32 ∧ DataMemoryAfterStore s t ea n v ∧ RunParametersKept s t

/-- A cycle whose only effect is the pc. -/
def PcResult (s t : State) (target : Word) : Prop :=
  RegistersKept s t ∧ t.pc = target ∧ DataMemoryKept s t ∧ RunParametersKept s t

/-- A jump and link: one register write and the pc. -/
def JumpResult (s t : State) (rd : RegIdx) (link target : Word) : Prop :=
  RegistersAfterWrite s t rd link ∧ t.pc = target ∧ DataMemoryKept s t ∧ RunParametersKept s t

/-- The 4-byte little-endian value of data memory at `a`, byte by byte (R34, R38). -/
def dataWordAt (s : State) (a : Nat) : Word :=
  s.dmem.read (a + 3) ++ s.dmem.read (a + 2) ++ s.dmem.read (a + 1) ++ s.dmem.read a

/-- The 4-byte little-endian value of instruction memory at `a`, byte by byte (R41). -/
def instructionWordAt (s : State) (a : Nat) : Word :=
  s.imem.read (a + 3) ++ s.imem.read (a + 2) ++ s.imem.read (a + 1) ++ s.imem.read a

/-! ### The invariant -/

/-- The machine's invariant: the parameters are legal and the image fits (R6, R125), the hard-wired register is stored
as 0 (R14, R16), both memories are canonical and lie inside their sizes (R25, R26). -/
structure Inv (s : State) : Prop where
  configLegal : s.config.wf = true
  imageFits : s.imageLen ≤ s.config.imemSize
  zeroRegister : s.regs[0] = 0#32
  dmemCanonical : Memory.wf s.dmem = true
  dmemInside : Memory.below s.config.dmemSize s.dmem = true
  imemCanonical : Memory.wf s.imem = true
  imemInside : Memory.below s.imageLen s.imem = true

/-! ### Runs -/

/-- `t` is reached from `s` by cycles that all answer a next state. -/
inductive Reaches (s : State) : State → Prop
  | refl : Reaches s s
  | tail {t u : State} : Reaches s t → step t = .next u → Reaches s u

/-- `t` is `n` cycles of a run after `s`: before each of them the halt test answers running (R127), and each answers a
next state. -/
inductive RunsFor (s : State) : Nat → State → Prop
  | refl : RunsFor s 0 s
  | tail {n : Nat} {t u : State} : RunsFor s n t → haltTest t = .running → step t = .next u → RunsFor s (n + 1) u

/-- A safe cycle: it answers a next state. A claim about a run takes this of every cycle as a premise (R110). -/
def SafeCycle (s : State) : Prop := ∃ t, step s = .next t

/-- A safe run: every state it reaches has a safe cycle, or is one the driver's halt test ends it at (R127). -/
def SafeRun (s : State) : Prop := ∀ t, Reaches s t → haltTest t = .halted ∨ SafeCycle t

/-- The bytes the cycle at `s` stores, from the word at its pc alone: four for the store opcode with funct3 010, two for
any other funct3, none for any other opcode (R35, R37). -/
def storedBytes (s : State) : List Host.Cell :=
  let w := instructionWordAt s s.pc.toNat
  let ea := (s.x (rs1Field w) + sext12 (immSField w)).toNat
  let v := s.x (rs2Field w)
  if opcodeField w = 0b0100011#7 then
    if funct3Field w = 0b010#3 then
      [(ea + 3, v.extractLsb' 24 8), (ea + 2, v.extractLsb' 16 8), (ea + 1, v.extractLsb' 8 8), (ea, v.extractLsb' 0 8)]
    else [(ea + 1, v.extractLsb' 8 8), (ea, v.extractLsb' 0 8)]
  else []

/-- A run of safe cycles with every byte it stored, the most recent first. -/
inductive StoreTrace (s : State) : List Host.Cell → State → Prop
  | refl : StoreTrace s [] s
  | tail {log : List Host.Cell} {t u : State} :
      StoreTrace s log t → step t = .next u → StoreTrace s (storedBytes t ++ log) u

/-- The most recent byte stored at `a` in a log, or `old` if there is none. -/
def lastStored (log : List Host.Cell) (a : Nat) (old : Byte) : Byte :=
  match log with
  | [] => old
  | (k, v) :: rest => if k = a then v else lastStored rest a old

end Sys2Proof.Safety
end

