-- ==== Sys2Proof/Certificates/Slice0/Obligations.lean ====
section
/-! DEFINITION. The statements for the provers, from the numbered rules of spec/. Those of an instruction say which words
are the instruction, what it answers for every operand and state, and what it leaves as it was; the frames
(`RegisterResult`, `StoreResult`, `PcResult`, `JumpResult`) are those of Safety.lean. All of them hold for every
configuration: both memory sizes and the switch ADD_USES_BIT30. -/

open Sys2Proof Sys2Proof.Machine Sys2Proof.Safety

/-- For every well-formed instruction, with every operand at every value its encoding admits: decoding its encoded word is
the instruction, and decoding its four little-endian bytes is the instruction with the bytes after them left over.
(30_encoding.md sections 1 to 3, 30_encoding.md section 6.) -/
def Obligations.EncodedInstructionDecodesToItself : Prop :=
  ∀ i : Instr, i.wf = true →
    decode (encode i) = i ∧ ∀ rest : List Byte, decodeBytes (encodeBytes i ++ rest) = .ok (i, rest)

/-- For every word: it decodes to a well-formed instruction, and encoding that instruction gives the word back with the
bits its format ignores cleared. R format ignores bits 31 and 29:25, and bit 30 unless funct3 is 000; the J format
ignores funct3; an Unknown word keeps only its opcode; I, S, B and U words are kept whole. Which bits are ignored is
R52 and R71; that they come back cleared is the model's own choice (assumption 16: they are no operands and are
encoded as 0). (30_encoding.md section 1, 30_encoding.md section 2.) -/
def Obligations.EncodeOfDecodeKeepsInterpretedBits : Prop :=
  ∀ w : Word, (decode w).wf = true ∧ encode (decode w) = w &&&
    match (decode w).format with
    | .R => if funct3Field w = 0b000#3 then 0x41FFFFFF#32 else 0x01FFFFFF#32
    | .J => 0xFFFF8FFF#32
    | .Unknown => 0x0000007F#32
    | .I | .S | .B | .U => 0xFFFFFFFF#32

/-- For every word w: w AND the mask of the row of the instruction w decodes to is that row's match; and any instruction
whose row w selects has that same match and mask. (rowMask and rowMatch hold the mask and match columns of the opcode
map.) (30_encoding.md section 6.) -/
def Obligations.EveryWordSelectsExactlyOneRow : Prop :=
  ∀ w : Word, w &&& (decode w).rowMask = (decode w).rowMatch ∧
    ∀ j : Instr, w &&& j.rowMask = j.rowMatch →
      j.rowMask = (decode w).rowMask ∧ j.rowMatch = (decode w).rowMatch

/-- The example words of the family files decode as the examples say: SUB x3,x1,x2; ADDI x1,x0,5; LW x4,0(x3); SH
x2,4(x3); BNE x1,x0,-8; JALR x1,0(x5); LUI x1,0xABCDE; and the JAL word is an Unknown word. (41_register_register.md,
42_register_immediate.md, 43_load_store.md, 44_control_transfer.md, 45_upper_immediate.md, 46_unrecognised.md.) -/
def Obligations.WordsOfTheManualDecode : Prop :=
  decode 0x402081B3#32 = .sub 3#5 1#5 2#5 ∧ decode 0x00500093#32 = .addi 1#5 0#5 5#12 ∧
  decode 0x0001A203#32 = .lw 4#5 3#5 0#12 ∧ decode 0x00219223#32 = .sh 2#5 3#5 4#12 ∧
  decode 0xFE009CE3#32 = .bne 1#5 0#5 (-8#13) ∧ decode 0x000280E7#32 = .jalr 1#5 5#5 0#12 ∧
  decode 0xABCDE0B7#32 = .lui 1#5 0xABCDE#20 ∧ decode 0x008000EF#32 = .unknown1101111

/-- Decoding any four bytes followed by any rest gives the instruction of the little-endian word they form and that rest;
a sequence of fewer than four bytes is rejected as too short, with its length. The rejection is the model's own choice
(assumption 18: there is no such case in the hardware). (30_encoding.md section 1, 20_memory.md section 2.) -/
def Obligations.BytesDecodeFourAtATime : Prop :=
  (∀ (b0 b1 b2 b3 : Byte) (rest : List Byte),
      decodeBytes (b0 :: b1 :: b2 :: b3 :: rest) = .ok (decode (b3 ++ b2 ++ b1 ++ b0), rest)) ∧
  ∀ bs : List Byte, bs.length < 4 → decodeBytes bs = .error (.tooShort bs.length)

/-- For every R-type word and every state whose switch ADD_USES_BIT30 is off (the spec's default, decision D13): executing
the word and executing the word with bit 30 inverted answer the same. (30_encoding.md section 1, 30_encoding.md
section 5, 92_eei_decisions.md D13.) -/
def Obligations.BitThirtyNeverReachesRType : Prop :=
  ∀ (w : Word) (s : State), opcodeField w = 0b0110011#7 → s.config.addUsesBit30 = false →
    exec (decode (w ^^^ 0x40000000#32)) s = exec (decode w) s

/-- The immediate generator, for every word. I and J: bits 30:20 minus 2048 when bit 31 is set. S: bits 30:25 times 32
plus bits 11:7, minus 2048 when bit 31 is set. B: bit 7 times 2048 plus bits 30:25 times 32 plus bits 11:8 times 2,
minus 4096 when bit 31 is set. U: bits 31:12 times 4096. R and Unknown: 0. (R57, R58, R59, R60, R61.) -/
def Obligations.ImmediatesAsIntegers : Prop :=
  ∀ w : Word,
    (Datapath.immGen w .I).toInt = ((w.extractLsb' 20 11).toNat : Int) - (if w[31] then 2048 else 0) ∧
    (Datapath.immGen w .J).toInt = ((w.extractLsb' 20 11).toNat : Int) - (if w[31] then 2048 else 0) ∧
    (Datapath.immGen w .S).toInt =
      32 * ((w.extractLsb' 25 6).toNat : Int) + ((w.extractLsb' 7 5).toNat : Int) - (if w[31] then 2048 else 0) ∧
    (Datapath.immGen w .B).toInt =
      2048 * ((w.extractLsb' 7 1).toNat : Int) + 32 * ((w.extractLsb' 25 6).toNat : Int)
        + 2 * ((w.extractLsb' 8 4).toNat : Int) - (if w[31] then 4096 else 0) ∧
    (Datapath.immGen w .U).toNat = 4096 * (w.extractLsb' 12 20).toNat ∧
    Datapath.immGen w .R = 0#32 ∧ Datapath.immGen w .Unknown = 0#32

/-- The Controller gives the seven rows of the table, signal by signal (jalr, lui, branch, memRead, memToReg, memWrite,
aluSrc, regWrite, aluOp), and all zeros for every other opcode (that the seven rows are the whole table is the
resolution C5). The ALU Control, for every funct3 and bit 30: aluOp 00 is Add; 01 is Sub; 10 is Sub for funct3 000
(Add when the switch ADD_USES_BIT30 is on and bit 30 is clear, decision D13), And for 111, Sra for 101, else Noop; 11
is Add for 000, Or for 110, Sltu for 011, else Noop. (30_encoding.md section 4, 30_encoding.md section 5,
90_conflicts.md C5, 92_eei_decisions.md D13.) -/
def Obligations.ControlTablesOfTheSource : Prop :=
  Datapath.control 0b0110011#7 = ⟨false, false, false, false, false, false, false, true, 0b10#2⟩ ∧
  Datapath.control 0b0010011#7 = ⟨false, false, false, false, false, false, true, true, 0b11#2⟩ ∧
  Datapath.control 0b0000011#7 = ⟨false, false, false, true, true, false, true, true, 0b00#2⟩ ∧
  Datapath.control 0b0100011#7 = ⟨false, false, false, false, false, true, true, false, 0b00#2⟩ ∧
  Datapath.control 0b1100011#7 = ⟨false, false, true, false, false, false, false, false, 0b01#2⟩ ∧
  Datapath.control 0b1100111#7 = ⟨true, false, false, false, false, false, true, true, 0b00#2⟩ ∧
  Datapath.control 0b0110111#7 = ⟨false, true, false, false, false, false, true, true, 0b00#2⟩ ∧
  (∀ op : BitVec 7, op ∉ [0b0110011#7, 0b0010011#7, 0b0000011#7, 0b0100011#7, 0b1100011#7, 0b1100111#7, 0b0110111#7] →
    Datapath.control op = ⟨false, false, false, false, false, false, false, false, 0b00#2⟩) ∧
  ∀ (switch : Bool) (f3 : BitVec 3) (bit30 : Bool),
    Datapath.aluControl switch 0b00#2 f3 bit30 = .Add ∧ Datapath.aluControl switch 0b01#2 f3 bit30 = .Sub ∧
    Datapath.aluControl switch 0b10#2 f3 bit30 =
      (if f3 = 0b000#3 then (if switch = true ∧ bit30 = false then .Add else .Sub)
       else if f3 = 0b111#3 then .And else if f3 = 0b101#3 then .Sra else .Noop) ∧
    Datapath.aluControl switch 0b11#2 f3 bit30 =
      (if f3 = 0b000#3 then .Add else if f3 = 0b110#3 then .Or else if f3 = 0b011#3 then .Sltu else .Noop)

/-- When the fault mark is clear and the four bytes at the pc lie in instruction memory, one step is exec of the
instruction that the little-endian word of those bytes decodes to, at that state; nothing is added around it. Any pc
will do: no alignment is required (decision D8). When those four bytes decode to a well-formed instruction i, step is
exec i. (40_datapath.md section 4, 20_memory.md section 3.) -/
def Obligations.StepRunsTheDecodedInstruction : Prop :=
  ∀ (i : Instr) (s : State), s.faultMark = none → s.pc.toNat + 4 ≤ s.config.imemSize →
    decode (instructionWordAt s s.pc.toNat) = i → step s = exec i s

/-- For every state, one step (fetch, decode to an instruction, its meaning) answers exactly what the cycle of the
datapath answers: fetch, field extraction, format, immediate generator, controller, ALU control, register read, ALU,
data memory ports, write-back selection and pc sequencer, in the seven steps of R83. The one goes by instructions and
the other by the word and its control signals; they share the fetch, the four access forms of data memory, the sign
extensions, the shift and the unsigned comparison. That a state with the fault mark set answers its fault again, on
both sides, is the model's reading of R110 and D17 (assumption 3), not part of R83. (40_datapath.md section 4,
60_exceptions.md section 1, 92_eei_decisions.md D17.) -/
def Obligations.StepIsTheDatapathCycle : Prop :=
  ∀ s : State, step s = Datapath.cycle s

/-- When the fault mark is clear and a byte of the word at the pc lies at or beyond IMEM_SIZE, the step faults with
FetchOutOfRange(pc), whatever memory holds: the fetch fault comes before any decode. The fault is the spec's own
decision D8. (20_memory.md section 3, 60_exceptions.md section 1, 92_eei_decisions.md D8.) -/
def Obligations.FetchOutsideFaultsBeforeDecode : Prop :=
  ∀ s : State, s.faultMark = none → s.config.imemSize < s.pc.toNat + 4 →
    step s = .fault (.fetchOutOfRange s.pc)

/-- In a state with a clear fault mark, canonical instruction memory and room for a word at the pc: after a word of nbits
bits is placed there, the next step is exec, at that state, of the instruction decodeTableWord reads from it; and
placing it changes only instruction memory and the image length. How a program comes to be placed is the model's
convention (assumption 4). (70_reset_and_hazards.md section 2, 20_memory.md section 3.) -/
def Obligations.PlacedWordIsTheNextInstruction : Prop :=
  ∀ (s : State) (nbits w : Nat), nbits ≤ 32 → s.faultMark = none → s.imem.wf = true →
    s.pc.toNat + 4 ≤ s.config.imemSize →
    ∃ i, decodeTableWord nbits w = some i ∧
      step (s.withFetchWord nbits w) = exec i (s.withFetchWord nbits w) ∧
      (s.withFetchWord nbits w).regs = s.regs ∧ (s.withFetchWord nbits w).pc = s.pc ∧
      (s.withFetchWord nbits w).dmem = s.dmem ∧ (s.withFetchWord nbits w).config = s.config ∧
      (s.withFetchWord nbits w).faultMark = none

/-- For all operands: with isLUI set the result is operand 2 for every operation. Otherwise Add is the sum modulo 2^32 and
Sub the difference modulo 2^32 (decision D3), And and Or are bitwise, Sra is the floor of the signed operand 1 over 2
to the low five bits of operand 2, Sltu is 1 or 0 by unsigned comparison, Noop is 0. The zero flag is set exactly when
the final result is 0. (40_datapath.md section 1, 92_eei_decisions.md D3.) -/
def Obligations.AluAsIntegers : Prop :=
  ∀ a b : Word,
    (∀ op, (Datapath.alu a b op true).1 = b) ∧
    (∀ op lui, (Datapath.alu a b op lui).2 = true ↔ (Datapath.alu a b op lui).1 = 0#32) ∧
    (Datapath.alu a b .Add false).1.toNat = (a.toNat + b.toNat) % 2 ^ 32 ∧
    ((Datapath.alu a b .Sub false).1.toNat : Int) = ((a.toNat : Int) - (b.toNat : Int)) % 2 ^ 32 ∧
    (∀ k, (Datapath.alu a b .And false).1.getLsbD k = (a.getLsbD k && b.getLsbD k)) ∧
    (∀ k, (Datapath.alu a b .Or false).1.getLsbD k = (a.getLsbD k || b.getLsbD k)) ∧
    (Datapath.alu a b .Sra false).1.toInt = a.toInt / 2 ^ (b.toNat % 32) ∧
    (Datapath.alu a b .Sltu false).1.toNat = (if a.toNat < b.toNat then 1 else 0) ∧
    (Datapath.alu a b .Noop false).1 = 0#32

/-- For every state, base register and displacement: the unsigned value of the effective address is the unsigned base plus
the signed 12-bit displacement, modulo 2^32 (the unsigned reading is decision D6). (20_memory.md section 1,
43_load_store.md, 92_eei_decisions.md D6.) -/
def Obligations.EffectiveAddressWrapsAsUnsigned : Prop :=
  ∀ (s : State) (rs1 : RegIdx) (imm : BitVec 12),
    ((s.effectiveAddress rs1 imm).toNat : Int) = (((s.x rs1).toNat : Int) + imm.toInt) % 2 ^ 32

/-- Every word under the ADD mask and match decodes to ADD with its fields. ADD writes rd with the difference, modulo
2^32, of rs1 and rs2 when the switch is off (the source's table), and with their sum when it is on (the spec's
decision D13). The pc advances by 4, x0 reads 0 whatever rd is, every other register, all of both memories, the
configuration and the fault mark are unchanged, and it always completes. (41_register_register.md, 90_conflicts.md C1,
92_eei_decisions.md D13.) -/
def Obligations.AddSubtractsUnlessSwitched : Prop :=
  (∀ w : Word, w &&& 0x4000707F#32 = 0x00000033#32 → decode w = .add (rdField w) (rs1Field w) (rs2Field w)) ∧
  ∀ (rd rs1 rs2 : RegIdx) (s : State), ∃ t, exec (.add rd rs1 rs2) s = .next t ∧
    RegisterResult s t rd (if s.config.addUsesBit30 then s.x rs1 + s.x rs2 else s.x rs1 - s.x rs2)

/-- Every word under the SUB mask and match decodes to SUB with its fields. SUB writes rd with rs1 - rs2 modulo 2^32,
whatever the switch. The pc advances by 4, x0 reads 0 whatever rd is, every other register, all of both memories, the
configuration and the fault mark are unchanged, and it always completes. (R89.) -/
def Obligations.SubWritesDifference : Prop :=
  (∀ w : Word, w &&& 0x4000707F#32 = 0x40000033#32 → decode w = .sub (rdField w) (rs1Field w) (rs2Field w)) ∧
  ∀ (rd rs1 rs2 : RegIdx) (s : State), ∃ t, exec (.sub rd rs1 rs2) s = .next t ∧
    RegisterResult s t rd (s.x rs1 - s.x rs2)

/-- Every word under the AND mask and match decodes to AND with its fields, bits 31:25 ignored. AND writes rd with the
bitwise and of rs1 and rs2. The pc advances by 4, x0 reads 0 whatever rd is, every other register, all of both
memories, the configuration and the fault mark are unchanged, and it always completes. (R90.) -/
def Obligations.AndWritesBitwiseAnd : Prop :=
  (∀ w : Word, w &&& 0x0000707F#32 = 0x00007033#32 → decode w = .and (rdField w) (rs1Field w) (rs2Field w)) ∧
  ∀ (rd rs1 rs2 : RegIdx) (s : State), ∃ t, exec (.and rd rs1 rs2) s = .next t ∧
    RegisterResult s t rd (s.x rs1 &&& s.x rs2)

/-- Every word under the OR mask and match decodes to OR with its fields. OR writes rd with 0: its funct3 is out of the
ALU Control table for aluOp 10. The pc advances by 4, x0 reads 0 whatever rd is, every other register, all of both
memories, the configuration and the fault mark are unchanged, and it always completes. (R91.) -/
def Obligations.OrWritesZero : Prop :=
  (∀ w : Word, w &&& 0x0000707F#32 = 0x00006033#32 → decode w = .or (rdField w) (rs1Field w) (rs2Field w)) ∧
  ∀ (rd rs1 rs2 : RegIdx) (s : State), ∃ t, exec (.or rd rs1 rs2) s = .next t ∧
    RegisterResult s t rd 0#32

/-- Every word under the SRA mask and match, whatever its bit 30, decodes to SRA with its fields. SRA writes rd with the
bits of the floor of signed rs1 divided by 2 to the power of the low five bits of rs2. The pc advances by 4, x0 reads
0 whatever rd is, every other register, all of both memories, the configuration and the fault mark are unchanged, and
it always completes. (R92.) -/
def Obligations.SraShiftsArithmetically : Prop :=
  (∀ w : Word, w &&& 0x0000707F#32 = 0x00005033#32 → decode w = .sra (rdField w) (rs1Field w) (rs2Field w)) ∧
  ∀ (rd rs1 rs2 : RegIdx) (s : State), ∃ t, exec (.sra rd rs1 rs2) s = .next t ∧
    RegisterResult s t rd (BitVec.ofInt 32 ((s.x rs1).toInt / 2 ^ ((s.x rs2).toNat % 32)))

/-- Every word under one of the four masks and matches decodes to that instruction with its fields. Each of the four
writes rd with 0. The pc advances by 4, x0 reads 0 whatever rd is, every other register, all of both memories, the
configuration and the fault mark are unchanged, and it always completes. (R93.) -/
def Obligations.OtherRTypeWordsWriteZero : Prop :=
  (∀ w : Word, w &&& 0x0000707F#32 = 0x00001033#32 → decode w = .sllEncoding (rdField w) (rs1Field w) (rs2Field w)) ∧
  (∀ w : Word, w &&& 0x0000707F#32 = 0x00002033#32 → decode w = .sltEncoding (rdField w) (rs1Field w) (rs2Field w)) ∧
  (∀ w : Word, w &&& 0x0000707F#32 = 0x00003033#32 → decode w = .sltuEncoding (rdField w) (rs1Field w) (rs2Field w)) ∧
  (∀ w : Word, w &&& 0x0000707F#32 = 0x00004033#32 → decode w = .xorEncoding (rdField w) (rs1Field w) (rs2Field w)) ∧
  ∀ (rd rs1 rs2 : RegIdx) (s : State) (i : Instr), i ∈ ([.sllEncoding rd rs1 rs2, .sltEncoding rd rs1 rs2, .sltuEncoding rd rs1 rs2, .xorEncoding rd rs1 rs2] : List Instr) →
    ∃ t, exec i s = .next t ∧ RegisterResult s t rd 0#32

/-- Every word under the ADDI mask and match decodes to ADDI with its fields. ADDI writes rd with rs1 plus the sign-
extended 12-bit immediate, modulo 2^32. The pc advances by 4, x0 reads 0 whatever rd is, every other register, all of
both memories, the configuration and the fault mark are unchanged, and it always completes. (R94.) -/
def Obligations.AddiWritesSum : Prop :=
  (∀ w : Word, w &&& 0x0000707F#32 = 0x00000013#32 → decode w = .addi (rdField w) (rs1Field w) (immIField w)) ∧
  ∀ (rd rs1 : RegIdx) (imm : BitVec 12) (s : State), ∃ t, exec (.addi rd rs1 imm) s = .next t ∧
    RegisterResult s t rd (s.x rs1 + imm.signExtend 32)

/-- Every word under the ORI mask and match decodes to ORI with its fields. ORI writes rd with rs1 or the sign-extended
12-bit immediate. The pc advances by 4, x0 reads 0 whatever rd is, every other register, all of both memories, the
configuration and the fault mark are unchanged, and it always completes. (R95.) -/
def Obligations.OriWritesBitwiseOr : Prop :=
  (∀ w : Word, w &&& 0x0000707F#32 = 0x00006013#32 → decode w = .ori (rdField w) (rs1Field w) (immIField w)) ∧
  ∀ (rd rs1 : RegIdx) (imm : BitVec 12) (s : State), ∃ t, exec (.ori rd rs1 imm) s = .next t ∧
    RegisterResult s t rd (s.x rs1 ||| imm.signExtend 32)

/-- Every word under the SLTIU mask and match decodes to SLTIU with its fields. SLTIU writes rd with 1 when unsigned rs1
is below the unsigned reading of the sign-extended immediate, else with 0. The pc advances by 4, x0 reads 0 whatever
rd is, every other register, all of both memories, the configuration and the fault mark are unchanged, and it always
completes. (R96.) -/
def Obligations.SltiuComparesUnsigned : Prop :=
  (∀ w : Word, w &&& 0x0000707F#32 = 0x00003013#32 → decode w = .sltiu (rdField w) (rs1Field w) (immIField w)) ∧
  ∀ (rd rs1 : RegIdx) (imm : BitVec 12) (s : State), ∃ t, exec (.sltiu rd rs1 imm) s = .next t ∧
    RegisterResult s t rd (if (s.x rs1).toNat < (imm.signExtend 32 : Word).toNat then 1#32 else 0#32)

/-- Every word under one of the five masks and matches decodes to that instruction with its fields. Each of the five
writes rd with 0. The pc advances by 4, x0 reads 0 whatever rd is, every other register, all of both memories, the
configuration and the fault mark are unchanged, and it always completes. (R97.) -/
def Obligations.OtherImmediateWordsWriteZero : Prop :=
  (∀ w : Word, w &&& 0x0000707F#32 = 0x00001013#32 → decode w = .slliEncoding (rdField w) (rs1Field w) (immIField w)) ∧
  (∀ w : Word, w &&& 0x0000707F#32 = 0x00002013#32 → decode w = .sltiEncoding (rdField w) (rs1Field w) (immIField w)) ∧
  (∀ w : Word, w &&& 0x0000707F#32 = 0x00004013#32 → decode w = .xoriEncoding (rdField w) (rs1Field w) (immIField w)) ∧
  (∀ w : Word, w &&& 0x0000707F#32 = 0x00005013#32 → decode w = .srliSraiEncoding (rdField w) (rs1Field w) (immIField w)) ∧
  (∀ w : Word, w &&& 0x0000707F#32 = 0x00007013#32 → decode w = .andiEncoding (rdField w) (rs1Field w) (immIField w)) ∧
  ∀ (rd rs1 : RegIdx) (imm : BitVec 12) (s : State) (i : Instr),
    i ∈ ([.slliEncoding rd rs1 imm, .sltiEncoding rd rs1 imm, .xoriEncoding rd rs1 imm, .srliSraiEncoding rd rs1 imm, .andiEncoding rd rs1 imm] : List Instr) →
    ∃ t, exec i s = .next t ∧ RegisterResult s t rd 0#32

/-- Every word under the LW mask and match decodes to LW with its fields. When the four bytes at rs1 plus the sign-
extended immediate lie in data memory, LW completes and writes rd with their little-endian value. The address may have
any alignment, and x0 as rd still reads and checks. The pc advances by 4, every other register, all of both memories,
the configuration and the fault mark are unchanged. When a byte of the access lies at or beyond DMEM_SIZE the
instruction faults with DataOutOfRange, the address and the byte count (the fault is the spec's decision D6). (R98.) -/
def Obligations.LwReadsFourBytes : Prop :=
  (∀ w : Word, w &&& 0x0000707F#32 = 0x00002003#32 → decode w = .lw (rdField w) (rs1Field w) (immIField w)) ∧
  ∀ (rd rs1 : RegIdx) (imm : BitVec 12) (s : State),
    ((s.effectiveAddress rs1 imm).toNat + 4 ≤ s.config.dmemSize →
      ∃ t, exec (.lw rd rs1 imm) s = .next t ∧ RegisterResult s t rd (dataWordAt s (s.effectiveAddress rs1 imm).toNat)) ∧
    (s.config.dmemSize < (s.effectiveAddress rs1 imm).toNat + 4 →
      exec (.lw rd rs1 imm) s = .fault (.dataOutOfRange (s.effectiveAddress rs1 imm) 4))

/-- Every word under the LBU mask and match decodes to LBU with its fields. When the byte at rs1 plus the sign-extended
immediate lies in data memory, LBU completes and writes rd with that byte, zero-extended (the extension is the spec's
decision D9). The address may have any alignment, and x0 as rd still reads and checks. The pc advances by 4, every
other register, all of both memories, the configuration and the fault mark are unchanged. When a byte of the access
lies at or beyond DMEM_SIZE the instruction faults with DataOutOfRange, the address and the byte count (the fault is
the spec's decision D6). (43_load_store.md, 92_eei_decisions.md D9, 92_eei_decisions.md D6.) -/
def Obligations.LbuReadsOneByteZeroExtended : Prop :=
  (∀ w : Word, w &&& 0x0000707F#32 = 0x00004003#32 → decode w = .lbu (rdField w) (rs1Field w) (immIField w)) ∧
  ∀ (rd rs1 : RegIdx) (imm : BitVec 12) (s : State),
    ((s.effectiveAddress rs1 imm).toNat + 1 ≤ s.config.dmemSize →
      ∃ t, exec (.lbu rd rs1 imm) s = .next t ∧ RegisterResult s t rd ((s.dmem.read (s.effectiveAddress rs1 imm).toNat).setWidth 32)) ∧
    (s.config.dmemSize < (s.effectiveAddress rs1 imm).toNat + 1 →
      exec (.lbu rd rs1 imm) s = .fault (.dataOutOfRange (s.effectiveAddress rs1 imm) 1))

/-- Every word under one of the six masks and matches decodes to that instruction with its fields. Each of the six (LB,
LH, LHU encodings, funct3 011, 110, 111) reads one byte, zero-extended (the spec's decision D9), exactly as LBU. The
address may have any alignment, and x0 as rd still reads and checks. The pc advances by 4, every other register, all
of both memories, the configuration and the fault mark are unchanged. When a byte of the access lies at or beyond
DMEM_SIZE the instruction faults with DataOutOfRange, the address and the byte count (the fault is the spec's decision
D6). (43_load_store.md, 92_eei_decisions.md D9, 92_eei_decisions.md D6.) -/
def Obligations.OtherLoadsReadOneByte : Prop :=
  (∀ w : Word, w &&& 0x0000707F#32 = 0x00000003#32 → decode w = .lbEncoding (rdField w) (rs1Field w) (immIField w)) ∧
  (∀ w : Word, w &&& 0x0000707F#32 = 0x00001003#32 → decode w = .lhEncoding (rdField w) (rs1Field w) (immIField w)) ∧
  (∀ w : Word, w &&& 0x0000707F#32 = 0x00003003#32 → decode w = .loadFunct3_011 (rdField w) (rs1Field w) (immIField w)) ∧
  (∀ w : Word, w &&& 0x0000707F#32 = 0x00005003#32 → decode w = .lhuEncoding (rdField w) (rs1Field w) (immIField w)) ∧
  (∀ w : Word, w &&& 0x0000707F#32 = 0x00006003#32 → decode w = .loadFunct3_110 (rdField w) (rs1Field w) (immIField w)) ∧
  (∀ w : Word, w &&& 0x0000707F#32 = 0x00007003#32 → decode w = .loadFunct3_111 (rdField w) (rs1Field w) (immIField w)) ∧
  ∀ (rd rs1 : RegIdx) (imm : BitVec 12) (s : State) (i : Instr),
    i ∈ ([.lbEncoding rd rs1 imm, .lhEncoding rd rs1 imm, .loadFunct3_011 rd rs1 imm, .lhuEncoding rd rs1 imm, .loadFunct3_110 rd rs1 imm, .loadFunct3_111 rd rs1 imm] : List Instr) →
    ((s.effectiveAddress rs1 imm).toNat + 1 ≤ s.config.dmemSize →
      ∃ t, exec i s = .next t ∧ RegisterResult s t rd ((s.dmem.read (s.effectiveAddress rs1 imm).toNat).setWidth 32)) ∧
    (s.config.dmemSize < (s.effectiveAddress rs1 imm).toNat + 1 →
      exec i s = .fault (.dataOutOfRange (s.effectiveAddress rs1 imm) 1))

/-- Every word under the SW mask and match decodes to SW with its fields. When the four bytes at rs1 plus the sign-
extended immediate lie in data memory, SW completes and writes there the four bytes of rs2, least significant first.
The address may have any alignment. The pc advances by 4; every register, every byte of data memory outside those
bytes, all of instruction memory, the configuration and the fault mark are unchanged. When a byte of the access lies
at or beyond DMEM_SIZE the instruction faults with DataOutOfRange, the address and the byte count, and stores nothing
(the fault is the spec's decision D6). Data memory is assumed canonical, which InvariantKeptByStep keeps. (R101.) -/
def Obligations.SwWritesFourBytes : Prop :=
  (∀ w : Word, w &&& 0x0000707F#32 = 0x00002023#32 → decode w = .sw (rs2Field w) (rs1Field w) (immSField w)) ∧
  ∀ (rs2 rs1 : RegIdx) (imm : BitVec 12) (s : State), s.dmem.wf = true →
    ((s.effectiveAddress rs1 imm).toNat + 4 ≤ s.config.dmemSize →
      ∃ t, exec (.sw rs2 rs1 imm) s = .next t ∧ StoreResult s t (s.effectiveAddress rs1 imm) 4 (s.x rs2)) ∧
    (s.config.dmemSize < (s.effectiveAddress rs1 imm).toNat + 4 →
      exec (.sw rs2 rs1 imm) s = .fault (.dataOutOfRange (s.effectiveAddress rs1 imm) 4))

/-- Every word under the SH mask and match decodes to SH with its fields. When the two bytes at rs1 plus the sign-extended
immediate lie in data memory, SH completes and writes there the low two bytes of rs2, least significant first. The
address may have any alignment. The pc advances by 4; every register, every byte of data memory outside those bytes,
all of instruction memory, the configuration and the fault mark are unchanged. When a byte of the access lies at or
beyond DMEM_SIZE the instruction faults with DataOutOfRange, the address and the byte count, and stores nothing (the
fault is the spec's decision D6). Data memory is assumed canonical, which InvariantKeptByStep keeps. (R102.) -/
def Obligations.ShWritesTwoBytes : Prop :=
  (∀ w : Word, w &&& 0x0000707F#32 = 0x00001023#32 → decode w = .sh (rs2Field w) (rs1Field w) (immSField w)) ∧
  ∀ (rs2 rs1 : RegIdx) (imm : BitVec 12) (s : State), s.dmem.wf = true →
    ((s.effectiveAddress rs1 imm).toNat + 2 ≤ s.config.dmemSize →
      ∃ t, exec (.sh rs2 rs1 imm) s = .next t ∧ StoreResult s t (s.effectiveAddress rs1 imm) 2 (s.x rs2)) ∧
    (s.config.dmemSize < (s.effectiveAddress rs1 imm).toNat + 2 →
      exec (.sh rs2 rs1 imm) s = .fault (.dataOutOfRange (s.effectiveAddress rs1 imm) 2))

/-- Every word under one of the six masks and matches decodes to that instruction with its fields. Each of the six (the SB
encoding, funct3 011, 100, 101, 110, 111) writes the low two bytes of rs2, exactly as SH. The address may have any
alignment. The pc advances by 4; every register, every byte of data memory outside those bytes, all of instruction
memory, the configuration and the fault mark are unchanged. When a byte of the access lies at or beyond DMEM_SIZE the
instruction faults with DataOutOfRange, the address and the byte count, and stores nothing (the fault is the spec's
decision D6). Data memory is assumed canonical, which InvariantKeptByStep keeps. (R103.) -/
def Obligations.OtherStoresWriteTwoBytes : Prop :=
  (∀ w : Word, w &&& 0x0000707F#32 = 0x00000023#32 → decode w = .sbEncoding (rs2Field w) (rs1Field w) (immSField w)) ∧
  (∀ w : Word, w &&& 0x0000707F#32 = 0x00003023#32 → decode w = .storeFunct3_011 (rs2Field w) (rs1Field w) (immSField w)) ∧
  (∀ w : Word, w &&& 0x0000707F#32 = 0x00004023#32 → decode w = .storeFunct3_100 (rs2Field w) (rs1Field w) (immSField w)) ∧
  (∀ w : Word, w &&& 0x0000707F#32 = 0x00005023#32 → decode w = .storeFunct3_101 (rs2Field w) (rs1Field w) (immSField w)) ∧
  (∀ w : Word, w &&& 0x0000707F#32 = 0x00006023#32 → decode w = .storeFunct3_110 (rs2Field w) (rs1Field w) (immSField w)) ∧
  (∀ w : Word, w &&& 0x0000707F#32 = 0x00007023#32 → decode w = .storeFunct3_111 (rs2Field w) (rs1Field w) (immSField w)) ∧
  ∀ (rs2 rs1 : RegIdx) (imm : BitVec 12) (s : State) (i : Instr), s.dmem.wf = true →
    i ∈ ([.sbEncoding rs2 rs1 imm, .storeFunct3_011 rs2 rs1 imm, .storeFunct3_100 rs2 rs1 imm, .storeFunct3_101 rs2 rs1 imm, .storeFunct3_110 rs2 rs1 imm, .storeFunct3_111 rs2 rs1 imm] : List Instr) →
    ((s.effectiveAddress rs1 imm).toNat + 2 ≤ s.config.dmemSize →
      ∃ t, exec i s = .next t ∧ StoreResult s t (s.effectiveAddress rs1 imm) 2 (s.x rs2)) ∧
    (s.config.dmemSize < (s.effectiveAddress rs1 imm).toNat + 2 →
      exec i s = .fault (.dataOutOfRange (s.effectiveAddress rs1 imm) 2))

/-- Every word under the BNE mask and match decodes to BNE with its fields. BNE sets the pc to pc plus the sign-extended
offset when all 32 bits of rs1 and rs2 are not equal, and to pc + 4 when they are equal. No register and no byte of
either memory changes, nor the configuration nor the fault mark, and it always completes, whatever the alignment of
the target. (R104.) -/
def Obligations.BneBranchesWhenOperandsDiffer : Prop :=
  (∀ w : Word, w &&& 0x0000707F#32 = 0x00001063#32 → decode w = .bne (rs1Field w) (rs2Field w) (immBField w)) ∧
  ∀ (rs1 rs2 : RegIdx) (offset : BitVec 13) (s : State),
    ∃ t, exec (.bne rs1 rs2 offset) s = .next t ∧
      PcResult s t (if s.x rs1 = s.x rs2 then s.pc + 4#32 else s.pc + offset.signExtend 32)

/-- Every word under one of the seven masks and matches decodes to that instruction with its fields. Each of the seven
(BEQ, BLT, BGE, BLTU, BGEU encodings, funct3 010 and 011) sets the pc to pc plus the sign-extended offset when rs1 and
rs2 differ, and to pc + 4 when they are equal. No register and no byte of either memory changes, nor the configuration
nor the fault mark, and it always completes, whatever the alignment of the target. (R105.) -/
def Obligations.OtherBranchesBehaveAsBne : Prop :=
  (∀ w : Word, w &&& 0x0000707F#32 = 0x00000063#32 → decode w = .beqEncoding (rs1Field w) (rs2Field w) (immBField w)) ∧
  (∀ w : Word, w &&& 0x0000707F#32 = 0x00002063#32 → decode w = .branchFunct3_010 (rs1Field w) (rs2Field w) (immBField w)) ∧
  (∀ w : Word, w &&& 0x0000707F#32 = 0x00003063#32 → decode w = .branchFunct3_011 (rs1Field w) (rs2Field w) (immBField w)) ∧
  (∀ w : Word, w &&& 0x0000707F#32 = 0x00004063#32 → decode w = .bltEncoding (rs1Field w) (rs2Field w) (immBField w)) ∧
  (∀ w : Word, w &&& 0x0000707F#32 = 0x00005063#32 → decode w = .bgeEncoding (rs1Field w) (rs2Field w) (immBField w)) ∧
  (∀ w : Word, w &&& 0x0000707F#32 = 0x00006063#32 → decode w = .bltuEncoding (rs1Field w) (rs2Field w) (immBField w)) ∧
  (∀ w : Word, w &&& 0x0000707F#32 = 0x00007063#32 → decode w = .bgeuEncoding (rs1Field w) (rs2Field w) (immBField w)) ∧
  ∀ (rs1 rs2 : RegIdx) (offset : BitVec 13) (s : State) (i : Instr),
    i ∈ ([.beqEncoding rs1 rs2 offset, .branchFunct3_010 rs1 rs2 offset, .branchFunct3_011 rs1 rs2 offset, .bltEncoding rs1 rs2 offset, .bgeEncoding rs1 rs2 offset, .bltuEncoding rs1 rs2 offset, .bgeuEncoding rs1 rs2 offset] : List Instr) →
    ∃ t, exec i s = .next t ∧
      PcResult s t (if s.x rs1 = s.x rs2 then s.pc + 4#32 else s.pc + offset.signExtend 32)

/-- Every word of opcode 1100111, whatever its funct3, decodes to JALR with its fields. JALR writes rd with pc + 4 and
sets the pc to the value rs1 had before the write plus the sign-extended immediate, no bit cleared (the old value and
the missing mask are the spec's decision D11). x0 reads 0 whatever rd is; every other register, both memories, the
configuration and the fault mark are unchanged, and it always completes. (44_control_transfer.md, 92_eei_decisions.md
D11.) -/
def Obligations.JalrLinksAndJumps : Prop :=
  (∀ w : Word, w &&& 0x0000007F#32 = 0x00000067#32 → decode w = .jalr (rdField w) (rs1Field w) (immIField w)) ∧
  ∀ (rd rs1 : RegIdx) (imm : BitVec 12) (s : State), ∃ t, exec (.jalr rd rs1 imm) s = .next t ∧
    JumpResult s t rd (s.pc + 4#32) (s.x rs1 + imm.signExtend 32)

/-- Every word of opcode 0110111 decodes to LUI with its fields. LUI writes rd with the 20-bit immediate in bits 31:12 and
the low 12 bits 0. The pc advances by 4, x0 reads 0 whatever rd is, every other register, all of both memories, the
configuration and the fault mark are unchanged, and it always completes. (R107.) -/
def Obligations.LuiWritesUpperImmediate : Prop :=
  (∀ w : Word, w &&& 0x0000007F#32 = 0x00000037#32 → decode w = .lui (rdField w) (w.extractLsb' 12 20)) ∧
  ∀ (rd : RegIdx) (imm20 : BitVec 20) (s : State), ∃ t, exec (.lui rd imm20) s = .next t ∧
    RegisterResult s t rd (imm20 ++ 0#12)

/-- Every word whose opcode is none of the seven recognised ones decodes to an instruction of format Unknown whose row is
its own opcode, and each of the 121 instructions of format Unknown completes in every state with no effect but pc <-
pc + 4: no register and no byte of either memory changes. (R108.) -/
def Obligations.UnknownWordsOnlyAdvance : Prop :=
  (∀ w : Word, opcodeField w ∉ [0b0110011#7, 0b0010011#7, 0b0000011#7, 0b0100011#7, 0b1100011#7, 0b1100111#7, 0b0110111#7] →
    (decode w).format = .Unknown ∧ (decode w).rowMask = 0x0000007F#32 ∧
      (decode w).rowMatch = (opcodeField w).setWidth 32) ∧
  ∀ (i : Instr) (s : State), i.format = .Unknown →
    ∃ t, exec i s = .next t ∧ PcResult s t (s.pc + 4#32)

/-- For every state, index, value and enable: after the write port is driven, x0 reads 0; a write to index 0 leaves the
whole state as it was, and an enabled write to any other index is what that index then reads, every other index
reading as before. (R14.) -/
def Obligations.ZeroRegisterReadsZero : Prop :=
  ∀ (s : State) (i : RegIdx) (v : Word) (enable : Bool),
    (s.writePort i v enable).x 0#5 = 0#32 ∧ s.writePort 0#5 v enable = s ∧
    ∀ j : RegIdx, j ≠ 0#5 → (s.writePort i v enable).x j = if enable = true ∧ j = i then v else s.x j

/-- From every state that meets the invariant, reached or not, a cycle that answers a next state gives one that meets it:
the configuration is legal and the image fits instruction memory, the stored entry of x0 is 0, and both memories are
in canonical form inside their sizes. The canonical form is the model's own representation. (10_state.md sections 1 to
4, 20_memory.md section 4, 00_scope.md section 3.) -/
def Obligations.InvariantKeptByStep : Prop :=
  ∀ s t : State, Inv s → step s = .next t → Inv t

/-- The reset state meets the invariant of InvariantKeptByStep. Its memory sizes are the model's choice (assumption 1).
(70_reset_and_hazards.md section 1, 00_scope.md section 3.) -/
def Obligations.InvariantAtReset : Prop :=
  Inv State.reset

/-- Under every legal configuration: an image longer than IMEM_SIZE gives no machine, and any other image gives a state
that meets the invariant, with every register 0 (R19), pc 0 (decision D2), every byte of data memory 0 (D4), byte i of
instruction memory the image's byte i and 0 past the image (D2, D20), L the image's length, that configuration, and
the fault mark clear. (70_reset_and_hazards.md sections 1 and 2, 92_eei_decisions.md D2, 92_eei_decisions.md D4,
92_eei_decisions.md D19, 92_eei_decisions.md D20.) -/
def Obligations.ConstructionGivesTheResetState : Prop :=
  ∀ (config : Config) (image : List Byte), config.wf = true →
    (config.imemSize < image.length → construct config image = none) ∧
    (image.length ≤ config.imemSize → ∃ s, construct config image = some s ∧ Inv s ∧
      (∀ i : RegIdx, s.x i = 0#32) ∧ s.pc = 0#32 ∧ (∀ a, s.dmem.read a = 0#8) ∧ (∀ a, s.imem.read a = (image[a]?).getD 0#8) ∧
      s.imageLen = image.length ∧ s.config = config ∧ s.faultMark = none)

/-- In the reset state, and after construction with any image under any configuration, every register reads 0 and every
stored entry of the register file is 0. (R19.) -/
def Obligations.RegistersZeroAfterConstruction : Prop :=
  (∀ i : RegIdx, State.reset.x i = 0#32) ∧
  ∀ (config : Config) (image : List Byte) (s : State), construct config image = some s →
    (∀ i : RegIdx, s.x i = 0#32) ∧ s.regs = Vector.replicate 32 0#32

/-- Every state a run reaches has the instruction memory (R48), the fault mark, and the image length and configuration the
run began with (the last two are fields of State by the model's own choice, assumption 2). So from a constructed
machine, in every state reached, byte a of instruction memory is byte a of the image (R125, decision D2), and 0 past
its last byte (R25, decision D20); and a cycle at any pc whose four bytes lie in instruction memory, inside the image,
past it or across its end, executes the little-endian word of those four bytes. (20_memory.md section 5, 20_memory.md
section 3, 10_state.md section 3, 70_reset_and_hazards.md section 2, 92_eei_decisions.md D2, 92_eei_decisions.md D20.) -/
def Obligations.InstructionMemoryIsTheImage : Prop :=
  (∀ s t : State, Reaches s t → RunParametersKept s t) ∧
  ∀ (config : Config) (image : List Byte) (s t : State), construct config image = some s → Reaches s t →
    (∀ a : Nat, t.imem.read a = (image[a]?).getD 0#8) ∧
    (t.pc.toNat + 4 ≤ config.imemSize →
      step t = exec (decode ((image[t.pc.toNat + 3]?).getD 0#8 ++ (image[t.pc.toNat + 2]?).getD 0#8 ++
        (image[t.pc.toNat + 1]?).getD 0#8 ++ (image[t.pc.toNat]?).getD 0#8)) t)

/-- For every cycle that answers a next state, by the word at its pc: no register but the word's rd field changes; for an
opcode without regWrite no register changes at all; for an opcode other than the store opcode no byte of data memory
changes; and for the store opcode no byte outside the four (funct3 010) or two bytes at its effective address changes.
Data memory is assumed canonical. (40_datapath.md section 4, 30_encoding.md section 4, 20_memory.md section 1.) -/
def Obligations.AtMostOneWritePerCycle : Prop :=
  ∀ s t : State, s.dmem.wf = true → step s = .next t →
    (∀ i : RegIdx, i ≠ rdField (instructionWordAt s s.pc.toNat) → t.x i = s.x i) ∧
    (opcodeField (instructionWordAt s s.pc.toNat) ∉
      [0b0110011#7, 0b0010011#7, 0b0000011#7, 0b1100111#7, 0b0110111#7] → RegistersKept s t) ∧
    (opcodeField (instructionWordAt s s.pc.toNat) ≠ 0b0100011#7 → DataMemoryKept s t) ∧
    (opcodeField (instructionWordAt s s.pc.toNat) = 0b0100011#7 → ∀ a : Nat,
      (a < (s.effectiveAddress (rs1Field (instructionWordAt s s.pc.toNat)) (immSField (instructionWordAt s s.pc.toNat))).toNat ∨
       (s.effectiveAddress (rs1Field (instructionWordAt s s.pc.toNat)) (immSField (instructionWordAt s s.pc.toNat))).toNat
          + (if funct3Field (instructionWordAt s s.pc.toNat) = 0b010#3 then 4 else 2) ≤ a) →
      t.dmem.read a = s.dmem.read a)

/-- For every cycle that answers a next state, by the word at its pc: the next pc is pc plus the sign-extended B immediate
for a branch opcode whose registers differ, rs1 plus the sign-extended I immediate for JALR, and pc + 4 for everything
else, an unrecognised instruction included. R22 gives the three values and R81 when each is taken; that JALR takes rs1
as it was before the write and clears no bit is the spec's decision D11. (10_state.md section 2, 40_datapath.md
section 3, 92_eei_decisions.md D11.) -/
def Obligations.NextPcIsOneOfThree : Prop :=
  ∀ s t : State, step s = .next t → t.pc =
    if opcodeField (instructionWordAt s s.pc.toNat) = 0b1100011#7 ∧
        s.x (rs1Field (instructionWordAt s s.pc.toNat)) ≠ s.x (rs2Field (instructionWordAt s s.pc.toNat)) then
      s.pc + (immBField (instructionWordAt s s.pc.toNat)).signExtend 32
    else if opcodeField (instructionWordAt s s.pc.toNat) = 0b1100111#7 then
      s.x (rs1Field (instructionWordAt s s.pc.toNat)) + (immIField (instructionWordAt s s.pc.toNat)).signExtend 32
    else s.pc + 4#32

/-- For every state, no cycle is refused. With a clear fault mark and a fetch inside instruction memory: a load or store
opcode whose access (4 bytes for funct3 010, else 1 to read and 2 to write) leaves data memory faults with
DataOutOfRange, the address and the byte count; every other cycle answers a next state. The faults are the spec's
decision D17. (40_datapath.md section 4, 60_exceptions.md section 1, 20_memory.md section 2, 92_eei_decisions.md D17.) -/
def Obligations.StepStopsOnlyByModelFaults : Prop :=
  (∀ (s : State) (r : Refusal), step s ≠ .refused r) ∧
  ∀ s : State, s.faultMark = none → s.pc.toNat + 4 ≤ s.config.imemSize →
    ∀ (w ea : Word) (n : Nat), w = instructionWordAt s s.pc.toNat →
      (opcodeField w = 0b0000011#7 → ea = s.effectiveAddress (rs1Field w) (immIField w) →
        n = (if funct3Field w = 0b010#3 then 4 else 1) → s.config.dmemSize < ea.toNat + n →
        step s = .fault (.dataOutOfRange ea n)) ∧
      (opcodeField w = 0b0100011#7 → ea = s.effectiveAddress (rs1Field w) (immSField w) →
        n = (if funct3Field w = 0b010#3 then 4 else 2) → s.config.dmemSize < ea.toNat + n →
        step s = .fault (.dataOutOfRange ea n)) ∧
      (opcodeField w = 0b0000011#7 → ea = s.effectiveAddress (rs1Field w) (immIField w) →
        n = (if funct3Field w = 0b010#3 then 4 else 1) → ea.toNat + n ≤ s.config.dmemSize →
        ∃ t, step s = .next t) ∧
      (opcodeField w = 0b0100011#7 → ea = s.effectiveAddress (rs1Field w) (immSField w) →
        n = (if funct3Field w = 0b010#3 then 4 else 2) → ea.toNat + n ≤ s.config.dmemSize →
        ∃ t, step s = .next t) ∧
      (opcodeField w ≠ 0b0000011#7 → opcodeField w ≠ 0b0100011#7 → ∃ t, step s = .next t)

/-- From a canonical data memory with four bytes in range: after SW of v, an LW at the same address gives v; an LBU at the
address plus k, for k below 4 and no wrap of the address, gives byte k of v, zero-extended (decision D9); and an SH of
u at the same address followed by an LW gives the high half of v over the low half of u. The instructions may use any
registers that hold the address. The wide store form is decision D10. (20_memory.md section 2, 92_eei_decisions.md D9,
92_eei_decisions.md D10.) -/
def Obligations.StoredValueReadsBackAtEveryWidth : Prop :=
  ∀ (s : State) (rs2 rs1 : RegIdx) (imm : BitVec 12), s.dmem.wf = true →
    (s.effectiveAddress rs1 imm).toNat + 4 ≤ s.config.dmemSize →
    ∃ t, exec (.sw rs2 rs1 imm) s = .next t ∧
      (∀ (rd b : RegIdx) (d : BitVec 12), rd ≠ 0#5 → t.effectiveAddress b d = s.effectiveAddress rs1 imm →
        ∃ u, exec (.lw rd b d) t = .next u ∧ u.x rd = s.x rs2) ∧
      (∀ (rd b : RegIdx) (d : BitVec 12) (k : Nat), rd ≠ 0#5 → k < 4 →
        (t.effectiveAddress b d).toNat = (s.effectiveAddress rs1 imm).toNat + k →
        ∃ u, exec (.lbu rd b d) t = .next u ∧ u.x rd = ((s.x rs2).extractLsb' (8 * k) 8).setWidth 32) ∧
      (∀ (r b rd c : RegIdx) (d e : BitVec 12), rd ≠ 0#5 → t.effectiveAddress b d = s.effectiveAddress rs1 imm →
        t.effectiveAddress c e = s.effectiveAddress rs1 imm →
        ∃ u v, exec (.sh r b d) t = .next u ∧ exec (.lw rd c e) u = .next v ∧
          v.x rd = (s.x rs2).extractLsb' 16 16 ++ (t.x r).extractLsb' 0 16)

/-- Along every run from a canonical data memory, with the bytes each cycle stored logged from the fetched words alone:
every byte of data memory is the most recently logged byte for its address, or the byte it held at the start if there
is none. In the state reached, an LW with its four bytes in range writes rd with those four bytes, little-endian; and
each of the seven narrow loads (LBU, the LB, LH and LHU encodings, funct3 011, 110 and 111) with its byte in range
writes rd with that byte, zero-extended (decision D9). x0 reads 0 whatever rd is, and every other register is
unchanged. (20_memory.md section 5, 20_memory.md section 1, 92_eei_decisions.md D9.) -/
def Obligations.LoadsSeeTheLatestStore : Prop :=
  ∀ (s t : State) (log : List Host.Cell), s.dmem.wf = true → StoreTrace s log t →
    (∀ a : Nat, t.dmem.read a = lastStored log a (s.dmem.read a)) ∧
    ∀ (rd rs1 : RegIdx) (imm : BitVec 12) (a : Nat), a = (t.effectiveAddress rs1 imm).toNat →
      (a + 4 ≤ t.config.dmemSize →
        ∃ u, exec (.lw rd rs1 imm) t = .next u ∧ RegistersAfterWrite t u rd
          (lastStored log (a + 3) (s.dmem.read (a + 3)) ++ lastStored log (a + 2) (s.dmem.read (a + 2)) ++
            lastStored log (a + 1) (s.dmem.read (a + 1)) ++ lastStored log a (s.dmem.read a))) ∧
      (a + 1 ≤ t.config.dmemSize →
        ∀ i ∈ ([.lbEncoding rd rs1 imm, .lhEncoding rd rs1 imm, .loadFunct3_011 rd rs1 imm, .lbu rd rs1 imm,
            .lhuEncoding rd rs1 imm, .loadFunct3_110 rd rs1 imm, .loadFunct3_111 rd rs1 imm] : List Instr),
          ∃ u, exec i t = .next u ∧
            RegistersAfterWrite t u rd ((lastStored log a (s.dmem.read a)).setWidth 32))

/-- A state whose fault mark is set has no next state: its step answers that fault again, and a run from it is that
faulted state whatever the fuel (the mark and the faults are the spec's decision D17; that step answers the mark again
and run sets it is the model's choice, assumption 3). (60_exceptions.md section 1, 92_eei_decisions.md D17.) -/
def Obligations.FaultedStateIsFinal : Prop :=
  ∀ (s : State) (f : Fault), s.faultMark = some f →
    step s = .fault f ∧ ∀ fuel : Nat, run fuel s = .faulted s

/-- For every state: the halt test answers halted exactly when the pc is at or past the image length, or the word at the
pc lies in instruction memory and the low seven bits of the one byte at the pc are 0; it faults exactly when the pc is
inside the image and the word at it leaves instruction memory (decision D12). (70_reset_and_hazards.md section 3,
92_eei_decisions.md D12, 92_eei_decisions.md D20.) -/
def Obligations.HaltTestIsPcOrZeroOpcode : Prop :=
  ∀ s : State,
    (haltTest s = .halted ↔ s.imageLen ≤ s.pc.toNat ∨
      (s.pc.toNat + 4 ≤ s.config.imemSize ∧ (s.imem.read s.pc.toNat) &&& 0x7F#8 = 0#8)) ∧
    (∀ f, haltTest s = .faulted f ↔
      s.pc.toNat < s.imageLen ∧ s.config.imemSize < s.pc.toNat + 4 ∧ f = .fetchOutOfRange s.pc)

/-- For every state s with a clear fault mark and every fuel: if the halt test answers halted, the run is s, final; if the
halt test faults, the run is s with that fault mark, faulted; if it answers running and the cycle gives t, the run
with one more unit of fuel is the run from t; if it answers running and the cycle faults, the run with one more unit
of fuel is s with that fault mark, faulted (R127, decisions D12 and D17). With no fuel left and the halt test running,
the run answers unfinished at s. And for every fuel and state, a run that answers a final state reached it by cycles
that all answered a next state, the halt test holds of it, and its fault mark is clear. The fuel and the answer
unfinished are the model's own bound (assumption 14), and where the mark is set is its choice (assumption 3).
(70_reset_and_hazards.md section 3, 60_exceptions.md section 1, 92_eei_decisions.md D12, 92_eei_decisions.md D17.) -/
def Obligations.RunEndsOnlyAtAHaltedState : Prop :=
  (∀ (fuel : Nat) (s : State), s.faultMark = none →
    (haltTest s = .halted → run fuel s = .final s) ∧
    (∀ f, haltTest s = .faulted f → run fuel s = .faulted (s.withFaultMark f)) ∧
    (∀ t, haltTest s = .running → step s = .next t → run (fuel + 1) s = run fuel t) ∧
    (∀ f, haltTest s = .running → step s = .fault f → run (fuel + 1) s = .faulted (s.withFaultMark f)) ∧
    (haltTest s = .running → run 0 s = .unfinished s)) ∧
  ∀ (fuel : Nat) (s t : State), run fuel s = .final t →
    Reaches s t ∧ haltTest t = .halted ∧ t.faultMark = none

/-- For every fuel and state with a clear fault mark: a run that answers a faulted state t reached some state u with a
clear mark by fault-free cycles, the cycle or the halt test at u faulted with some f, and t is u with the fault mark f
and no other change (decision D17). That run sets the mark on the state before the cycle is the model's choice
(assumption 3), and its fuel the model's bound (assumption 14). (60_exceptions.md sections 1 and 3,
92_eei_decisions.md D17.) -/
def Obligations.RunFaultKeepsTheStateBefore : Prop :=
  ∀ (fuel : Nat) (s t : State), s.faultMark = none → run fuel s = .faulted t →
    ∃ u f, Reaches s u ∧ u.faultMark = none ∧ (step u = .fault f ∨ haltTest u = .faulted f) ∧
      t = u.withFaultMark f

/-- For every state and fuel: a run that ends (it does not answer unfinished) answers the same with any greater fuel; and
no run answers refused. The statement is about the model's own bound only: the fuel and the answer unfinished are its
choice (assumption 14), and the run of the spec (R127) has neither. (70_reset_and_hazards.md section 3.) -/
def Obligations.RunEndIndependentOfFuel : Prop :=
  ∀ (s : State) (fuel more : Nat), fuel ≤ more →
    (∀ r, run fuel s ≠ .refused r) ∧ ((∀ t, run fuel s ≠ .unfinished t) → run more s = run fuel s)

/-- For every path of n cycles from s to t, with the halt test running before each: if t has a clear mark and the halt
test answers halted there, every run of at least n units of fuel is t, final; if the halt test faults there with f,
every run of at least n is t with the mark f, faulted; and if it answers running and the cycle at t faults with f,
every run of more than n is t with the mark f, faulted (R127, decisions D12 and D17). The fuel is the model's own
bound (assumption 14), and where the mark is set is its choice (assumption 3). (70_reset_and_hazards.md section 3,
60_exceptions.md section 1, 92_eei_decisions.md D12, 92_eei_decisions.md D17.) -/
def Obligations.RunCompletesWhenTheHaltTestIsReached : Prop :=
  ∀ (n fuel : Nat) (s t : State), RunsFor s n t → t.faultMark = none →
    (n ≤ fuel → haltTest t = .halted → run fuel s = .final t) ∧
    (∀ f, n ≤ fuel → haltTest t = .faulted f → run fuel s = .faulted (t.withFaultMark f)) ∧
    (∀ f, n < fuel → haltTest t = .running → step t = .fault f → run fuel s = .faulted (t.withFaultMark f))
end

