-- ==== Sys2Proof/Laws/Decode.lean ====
section
/-! SUPPORT. Decoding and encoding: the fields of an encoded word, the masks of the opcode map, and which decoder each
opcode selects. -/

namespace Sys2Proof

/-! ### Masks and fields -/

/-- The mask of the opcode alone keeps the opcode field. -/
theorem and_opcodeMask (w : Word) : w &&& 0x0000007F#32 = (opcodeField w).setWidth 32 := by
  apply BitVec.eq_of_getLsbD_eq
  intro i hi
  simp only [opcodeField]
  interval_cases i <;> simp

/-- The mask of opcode and funct3 keeps those two fields. -/
theorem and_funct3Mask (w : Word) :
    w &&& 0x0000707F#32 = ((funct3Field w).setWidth 32 <<< 12) ||| (opcodeField w).setWidth 32 := by
  apply BitVec.eq_of_getLsbD_eq
  intro i hi
  simp only [opcodeField, funct3Field]
  interval_cases i <;> simp

/-- The mask of ADD and SUB keeps opcode, funct3 and bit 30. -/
theorem and_bit30Mask (w : Word) :
    w &&& 0x4000707F#32 = ((BitVec.ofBool (funct7Bit w)).setWidth 32 <<< 30) |||
      (((funct3Field w).setWidth 32 <<< 12) ||| (opcodeField w).setWidth 32) := by
  apply BitVec.eq_of_getLsbD_eq
  intro i hi
  simp only [opcodeField, funct3Field, funct7Bit]
  interval_cases i <;> simp

theorem opcodeField_of_and7 {w m : Word} (h : w &&& 0x0000007F#32 = m) : opcodeField w = opcodeField m := by
  subst h; ext i; simp [opcodeField]; interval_cases i <;> simp

theorem fields_of_and10 {w m : Word} (h : w &&& 0x0000707F#32 = m) :
    opcodeField w = opcodeField m ∧ funct3Field w = funct3Field m := by
  subst h
  constructor <;> ext i <;> simp [opcodeField, funct3Field] <;> interval_cases i <;> simp

theorem fields_of_and11 {w m : Word} (h : w &&& 0x4000707F#32 = m) :
    opcodeField w = opcodeField m ∧ funct3Field w = funct3Field m ∧ funct7Bit w = funct7Bit m := by
  subst h
  refine ⟨?_, ?_, by simp [funct7Bit]⟩ <;> ext i <;> simp [opcodeField, funct3Field] <;> interval_cases i <;> simp

/-! ### Bits of an encoded word (R53) -/

section Encoded

variable (b : Bool) (f : BitVec 3) (op : BitVec 7) (rd rs1 rs2 : RegIdx) (imm : BitVec 12) (off : BitVec 13)
  (imm20 : BitVec 20)

theorem getLsbD_encodeR {i : Nat} (hi : i < 32) : (encodeR b f rd rs1 rs2).getLsbD i =
    if i < 7 then (0b0110011#7).getLsbD i else if i < 12 then rd.getLsbD (i - 7) else if i < 15 then f.getLsbD (i - 12)
    else if i < 20 then rs1.getLsbD (i - 15) else if i < 25 then rs2.getLsbD (i - 20) else (i == 30 && b) := by
  have h : (encodeR b f rd rs1 rs2).getLsbD i = BitVec.getLsbD (w := 1 + 1 + 5 + 5 + 5 + 3 + 5 + 7)
      (0#1 ++ BitVec.ofBool b ++ 0#5 ++ rs2 ++ rs1 ++ f ++ rd ++ 0b0110011#7) i := rfl
  rw [h]
  simp only [BitVec.getLsbD_append]
  interval_cases i <;> simp

theorem getLsbD_encodeI {i : Nat} (hi : i < 32) : (encodeI op f rd rs1 imm).getLsbD i =
    if i < 7 then op.getLsbD i else if i < 12 then rd.getLsbD (i - 7) else if i < 15 then f.getLsbD (i - 12)
    else if i < 20 then rs1.getLsbD (i - 15) else imm.getLsbD (i - 20) := by
  have h : (encodeI op f rd rs1 imm).getLsbD i = BitVec.getLsbD (w := 12 + 5 + 3 + 5 + 7)
      (imm ++ rs1 ++ f ++ rd ++ op) i := rfl
  rw [h]
  simp only [BitVec.getLsbD_append]
  interval_cases i <;> simp

theorem getLsbD_encodeS {i : Nat} (hi : i < 32) : (encodeS f rs2 rs1 imm).getLsbD i =
    if i < 7 then (0b0100011#7).getLsbD i else if i < 12 then imm.getLsbD (i - 7) else if i < 15 then f.getLsbD (i - 12)
    else if i < 20 then rs1.getLsbD (i - 15) else if i < 25 then rs2.getLsbD (i - 20) else imm.getLsbD (i - 20) := by
  have h : (encodeS f rs2 rs1 imm).getLsbD i = BitVec.getLsbD (w := 7 + 5 + 5 + 3 + 5 + 7)
      (imm.extractLsb' 5 7 ++ rs2 ++ rs1 ++ f ++ imm.extractLsb' 0 5 ++ 0b0100011#7) i := rfl
  rw [h]
  simp only [BitVec.getLsbD_append]
  interval_cases i <;> simp

theorem getLsbD_encodeB {i : Nat} (hi : i < 32) : (encodeB f rs1 rs2 off).getLsbD i =
    if i < 7 then (0b1100011#7).getLsbD i else if i = 7 then off.getLsbD 11 else if i < 12 then off.getLsbD (i - 7)
    else if i < 15 then f.getLsbD (i - 12) else if i < 20 then rs1.getLsbD (i - 15) else if i < 25 then rs2.getLsbD (i - 20)
    else if i < 31 then off.getLsbD (i - 20) else off.getLsbD 12 := by
  have h : (encodeB f rs1 rs2 off).getLsbD i = BitVec.getLsbD (w := 1 + 6 + 5 + 5 + 3 + 4 + 1 + 7)
      (off.extractLsb' 12 1 ++ off.extractLsb' 5 6 ++ rs2 ++ rs1 ++ f ++ off.extractLsb' 1 4
        ++ off.extractLsb' 11 1 ++ 0b1100011#7) i := rfl
  rw [h]
  simp only [BitVec.getLsbD_append]
  interval_cases i <;> simp

theorem getLsbD_encodeU {i : Nat} (hi : i < 32) : (encodeU rd imm20).getLsbD i =
    if i < 7 then (0b0110111#7).getLsbD i else if i < 12 then rd.getLsbD (i - 7) else imm20.getLsbD (i - 12) := by
  have h : (encodeU rd imm20).getLsbD i = BitVec.getLsbD (w := 20 + 5 + 7)
      (imm20 ++ rd ++ 0b0110111#7) i := rfl
  rw [h]
  simp only [BitVec.getLsbD_append]
  interval_cases i <;> simp

/-! ### Fields of an encoded word -/

@[simp] theorem opcodeField_encodeR : opcodeField (encodeR b f rd rs1 rs2) = 0b0110011#7 := by
  apply BitVec.eq_of_getLsbD_eq
  intro i hi
  simp only [opcodeField, BitVec.getLsbD_extractLsb', hi, decide_true, Bool.true_and]
  rw [getLsbD_encodeR _ _ _ _ _ (by omega)]
  interval_cases i <;> simp

@[simp] theorem funct3Field_encodeR : funct3Field (encodeR b f rd rs1 rs2) = f := by
  apply BitVec.eq_of_getLsbD_eq
  intro i hi
  simp only [funct3Field, BitVec.getLsbD_extractLsb', hi, decide_true, Bool.true_and]
  rw [getLsbD_encodeR _ _ _ _ _ (by omega)]
  interval_cases i <;> simp

@[simp] theorem rs1Field_encodeR : rs1Field (encodeR b f rd rs1 rs2) = rs1 := by
  apply BitVec.eq_of_getLsbD_eq
  intro i hi
  simp only [rs1Field, BitVec.getLsbD_extractLsb', hi, decide_true, Bool.true_and]
  rw [getLsbD_encodeR _ _ _ _ _ (by omega)]
  interval_cases i <;> simp

@[simp] theorem rs2Field_encodeR : rs2Field (encodeR b f rd rs1 rs2) = rs2 := by
  apply BitVec.eq_of_getLsbD_eq
  intro i hi
  simp only [rs2Field, BitVec.getLsbD_extractLsb', hi, decide_true, Bool.true_and]
  rw [getLsbD_encodeR _ _ _ _ _ (by omega)]
  interval_cases i <;> simp

@[simp] theorem rdField_encodeR : rdField (encodeR b f rd rs1 rs2) = rd := by
  apply BitVec.eq_of_getLsbD_eq
  intro i hi
  simp only [rdField, BitVec.getLsbD_extractLsb', hi, decide_true, Bool.true_and]
  rw [getLsbD_encodeR _ _ _ _ _ (by omega)]
  interval_cases i <;> simp

@[simp] theorem opcodeField_encodeI : opcodeField (encodeI op f rd rs1 imm) = op := by
  apply BitVec.eq_of_getLsbD_eq
  intro i hi
  simp only [opcodeField, BitVec.getLsbD_extractLsb', hi, decide_true, Bool.true_and]
  rw [getLsbD_encodeI _ _ _ _ _ (by omega)]
  interval_cases i <;> simp

@[simp] theorem funct3Field_encodeI : funct3Field (encodeI op f rd rs1 imm) = f := by
  apply BitVec.eq_of_getLsbD_eq
  intro i hi
  simp only [funct3Field, BitVec.getLsbD_extractLsb', hi, decide_true, Bool.true_and]
  rw [getLsbD_encodeI _ _ _ _ _ (by omega)]
  interval_cases i <;> simp

@[simp] theorem rs1Field_encodeI : rs1Field (encodeI op f rd rs1 imm) = rs1 := by
  apply BitVec.eq_of_getLsbD_eq
  intro i hi
  simp only [rs1Field, BitVec.getLsbD_extractLsb', hi, decide_true, Bool.true_and]
  rw [getLsbD_encodeI _ _ _ _ _ (by omega)]
  interval_cases i <;> simp

@[simp] theorem rdField_encodeI : rdField (encodeI op f rd rs1 imm) = rd := by
  apply BitVec.eq_of_getLsbD_eq
  intro i hi
  simp only [rdField, BitVec.getLsbD_extractLsb', hi, decide_true, Bool.true_and]
  rw [getLsbD_encodeI _ _ _ _ _ (by omega)]
  interval_cases i <;> simp

@[simp] theorem immIField_encodeI : immIField (encodeI op f rd rs1 imm) = imm := by
  apply BitVec.eq_of_getLsbD_eq
  intro i hi
  simp only [immIField, BitVec.getLsbD_extractLsb', hi, decide_true, Bool.true_and]
  rw [getLsbD_encodeI _ _ _ _ _ (by omega)]
  interval_cases i <;> simp

@[simp] theorem opcodeField_encodeS : opcodeField (encodeS f rs2 rs1 imm) = 0b0100011#7 := by
  apply BitVec.eq_of_getLsbD_eq
  intro i hi
  simp only [opcodeField, BitVec.getLsbD_extractLsb', hi, decide_true, Bool.true_and]
  rw [getLsbD_encodeS _ _ _ _ (by omega)]
  interval_cases i <;> simp

@[simp] theorem funct3Field_encodeS : funct3Field (encodeS f rs2 rs1 imm) = f := by
  apply BitVec.eq_of_getLsbD_eq
  intro i hi
  simp only [funct3Field, BitVec.getLsbD_extractLsb', hi, decide_true, Bool.true_and]
  rw [getLsbD_encodeS _ _ _ _ (by omega)]
  interval_cases i <;> simp

@[simp] theorem rs1Field_encodeS : rs1Field (encodeS f rs2 rs1 imm) = rs1 := by
  apply BitVec.eq_of_getLsbD_eq
  intro i hi
  simp only [rs1Field, BitVec.getLsbD_extractLsb', hi, decide_true, Bool.true_and]
  rw [getLsbD_encodeS _ _ _ _ (by omega)]
  interval_cases i <;> simp

@[simp] theorem rs2Field_encodeS : rs2Field (encodeS f rs2 rs1 imm) = rs2 := by
  apply BitVec.eq_of_getLsbD_eq
  intro i hi
  simp only [rs2Field, BitVec.getLsbD_extractLsb', hi, decide_true, Bool.true_and]
  rw [getLsbD_encodeS _ _ _ _ (by omega)]
  interval_cases i <;> simp

@[simp] theorem opcodeField_encodeB : opcodeField (encodeB f rs1 rs2 off) = 0b1100011#7 := by
  apply BitVec.eq_of_getLsbD_eq
  intro i hi
  simp only [opcodeField, BitVec.getLsbD_extractLsb', hi, decide_true, Bool.true_and]
  rw [getLsbD_encodeB _ _ _ _ (by omega)]
  interval_cases i <;> simp

@[simp] theorem funct3Field_encodeB : funct3Field (encodeB f rs1 rs2 off) = f := by
  apply BitVec.eq_of_getLsbD_eq
  intro i hi
  simp only [funct3Field, BitVec.getLsbD_extractLsb', hi, decide_true, Bool.true_and]
  rw [getLsbD_encodeB _ _ _ _ (by omega)]
  interval_cases i <;> simp

@[simp] theorem rs1Field_encodeB : rs1Field (encodeB f rs1 rs2 off) = rs1 := by
  apply BitVec.eq_of_getLsbD_eq
  intro i hi
  simp only [rs1Field, BitVec.getLsbD_extractLsb', hi, decide_true, Bool.true_and]
  rw [getLsbD_encodeB _ _ _ _ (by omega)]
  interval_cases i <;> simp

@[simp] theorem rs2Field_encodeB : rs2Field (encodeB f rs1 rs2 off) = rs2 := by
  apply BitVec.eq_of_getLsbD_eq
  intro i hi
  simp only [rs2Field, BitVec.getLsbD_extractLsb', hi, decide_true, Bool.true_and]
  rw [getLsbD_encodeB _ _ _ _ (by omega)]
  interval_cases i <;> simp

@[simp] theorem opcodeField_encodeU : opcodeField (encodeU rd imm20) = 0b0110111#7 := by
  apply BitVec.eq_of_getLsbD_eq
  intro i hi
  simp only [opcodeField, BitVec.getLsbD_extractLsb', hi, decide_true, Bool.true_and]
  rw [getLsbD_encodeU _ _ (by omega)]
  interval_cases i <;> simp

@[simp] theorem rdField_encodeU : rdField (encodeU rd imm20) = rd := by
  apply BitVec.eq_of_getLsbD_eq
  intro i hi
  simp only [rdField, BitVec.getLsbD_extractLsb', hi, decide_true, Bool.true_and]
  rw [getLsbD_encodeU _ _ (by omega)]
  interval_cases i <;> simp

@[simp] theorem immUField_encodeU : immUField (encodeU rd imm20) = imm20 := by
  apply BitVec.eq_of_getLsbD_eq
  intro i hi
  simp only [immUField, BitVec.getLsbD_extractLsb', hi, decide_true, Bool.true_and]
  rw [getLsbD_encodeU _ _ (by omega)]
  interval_cases i <;> simp

@[simp] theorem funct7Bit_encodeR : funct7Bit (encodeR b f rd rs1 rs2) = b := by
  have h := getLsbD_encodeR b f rd rs1 rs2 (i := 30) (by omega)
  simpa [funct7Bit] using h

@[simp] theorem immSField_encodeS : immSField (encodeS f rs2 rs1 imm) = imm := by
  apply BitVec.eq_of_getLsbD_eq
  intro i hi
  have h : (immSField (encodeS f rs2 rs1 imm)).getLsbD i = BitVec.getLsbD (w := 7 + 5)
      ((encodeS f rs2 rs1 imm).extractLsb' 25 7 ++ (encodeS f rs2 rs1 imm).extractLsb' 7 5) i := rfl
  rw [h]
  simp only [BitVec.getLsbD_append, BitVec.getLsbD_extractLsb']
  interval_cases i <;> simp only [Nat.reduceAdd, Nat.reduceSub, Nat.reduceLT, decide_true, decide_false, Bool.true_and, if_true, if_false] <;>
    rw [getLsbD_encodeS _ _ _ _ (by omega)] <;> simp

/-- The B immediate gives back a well-formed offset, whose bit 0 is the 0 the word has no place for (R59). -/
theorem immBField_encodeB (h : evenOffset off = true) : immBField (encodeB f rs1 rs2 off) = off := by
  apply BitVec.eq_of_getLsbD_eq
  intro i hi
  have h' : (immBField (encodeB f rs1 rs2 off)).getLsbD i = BitVec.getLsbD (w := 1 + 1 + 6 + 4 + 1)
      ((encodeB f rs1 rs2 off).extractLsb' 31 1 ++ (encodeB f rs1 rs2 off).extractLsb' 7 1
        ++ (encodeB f rs1 rs2 off).extractLsb' 25 6 ++ (encodeB f rs1 rs2 off).extractLsb' 8 4 ++ 0#1) i := rfl
  have h0 : off.getLsbD 0 = false := by simpa [evenOffset] using h
  rw [h']
  simp only [BitVec.getLsbD_append, BitVec.getLsbD_extractLsb']
  interval_cases i <;> simp only [Nat.reduceAdd, Nat.reduceSub, Nat.reduceLT, decide_true, decide_false, Bool.true_and, if_true, if_false]
  · simpa using h0.symm
  all_goals
    rw [getLsbD_encodeB _ _ _ _ (by omega)]
    simp

@[simp] theorem opcodeField_encodeUnknown : opcodeField (encodeUnknown op) = op := by
  apply BitVec.eq_of_getLsbD_eq
  intro i hi
  have h : (encodeUnknown op).getLsbD i = BitVec.getLsbD (w := 25 + 7) (0#25 ++ op) i := rfl
  simp only [opcodeField, BitVec.getLsbD_extractLsb', Nat.zero_add, h, BitVec.getLsbD_append]
  simp [hi]

end Encoded

/-- The word 4 bytes form gives those bytes back. -/
@[simp] theorem wordOfBytes_bytes (w : Word) :
    wordOfBytes (w.extractLsb' 0 8) (w.extractLsb' 8 8) (w.extractLsb' 16 8) (w.extractLsb' 24 8) = w := by
  apply BitVec.eq_of_getLsbD_eq
  intro i hi
  have h : (wordOfBytes (w.extractLsb' 0 8) (w.extractLsb' 8 8) (w.extractLsb' 16 8) (w.extractLsb' 24 8)).getLsbD i =
      BitVec.getLsbD (w := 8 + 8 + 8 + 8)
        (w.extractLsb' 24 8 ++ w.extractLsb' 16 8 ++ w.extractLsb' 8 8 ++ w.extractLsb' 0 8) i := rfl
  rw [h]
  simp only [BitVec.getLsbD_append, BitVec.getLsbD_extractLsb']
  interval_cases i <;> simp

/-- Decoding the bytes of a word is decoding the word. -/
theorem decodeBytes_bytesOfWord (w : Word) (rest : List Byte) :
    decodeBytes (bytesOfWord w ++ rest) = .ok (decode w, rest) := by
  simp [bytesOfWord, decodeBytes]

theorem decodeTableWord_eq {nbits : Nat} (h : nbits ≤ 32) (w : Nat) :
    decodeTableWord nbits w = some (decode (BitVec.ofNat 32 (w % 2 ^ nbits))) := by
  have := decodeBytes_bytesOfWord (BitVec.ofNat 32 (w % 2 ^ nbits)) []
  rw [List.append_nil] at this
  rw [decodeTableWord, if_pos h, this]

/-! ### Which rows an opcode selects (R54, R71) -/

theorem decode_of_opcode {w : Word} {op : BitVec 7} (h : opcodeField w = op) : decode w = decodeOpcode op w := by
  rw [decode, h]

theorem decode_opR {w : Word} (h : opcodeField w = 0b0110011#7) : decode w = decodeR w := decode_of_opcode h
theorem decode_opI {w : Word} (h : opcodeField w = 0b0010011#7) : decode w = decodeI w := decode_of_opcode h
theorem decode_opLoad {w : Word} (h : opcodeField w = 0b0000011#7) : decode w = decodeLoad w := decode_of_opcode h
theorem decode_opStore {w : Word} (h : opcodeField w = 0b0100011#7) : decode w = decodeStore w := decode_of_opcode h
theorem decode_opBranch {w : Word} (h : opcodeField w = 0b1100011#7) : decode w = decodeBranch w := decode_of_opcode h
theorem decode_opJalr {w : Word} (h : opcodeField w = 0b1100111#7) :
    decode w = .jalr (rdField w) (rs1Field w) (immIField w) := decode_of_opcode h
theorem decode_opLui {w : Word} (h : opcodeField w = 0b0110111#7) : decode w = .lui (rdField w) (immUField w) :=
  decode_of_opcode h

theorem decodeR_format (w : Word) : (decodeR w).format = .R := by
  unfold decodeR; split <;> first | rfl | (split <;> rfl)
theorem decodeI_format (w : Word) : (decodeI w).format = .I := by unfold decodeI; split <;> rfl
theorem decodeLoad_format (w : Word) : (decodeLoad w).format = .I := by unfold decodeLoad; split <;> rfl
theorem decodeStore_format (w : Word) : (decodeStore w).format = .S := by unfold decodeStore; split <;> rfl
theorem decodeBranch_format (w : Word) : (decodeBranch w).format = .B := by unfold decodeBranch; split <;> rfl

/-- A property of the 128 opcode literals holds of every opcode. -/
theorem forall_opcode {P : BitVec 7 → Prop} (h : ∀ n : Nat, n < 128 → P (BitVec.ofNat 7 n)) (op : BitVec 7) : P op := by
  simpa using h op.toNat op.isLt

/-- The eight cases of an opcode: the seven recognised values, or Unknown (R54, R55). -/
theorem opcode_cases (op : BitVec 7) : op = 0b0110011#7 ∨ op = 0b0010011#7 ∨ op = 0b0000011#7 ∨ op = 0b0100011#7 ∨
    op = 0b1100011#7 ∨ op = 0b1100111#7 ∨ op = 0b0110111#7 ∨ Format.ofOpcode op = .Unknown := by
  refine forall_opcode (P := fun op => op = 0b0110011#7 ∨ op = 0b0010011#7 ∨ op = 0b0000011#7 ∨ op = 0b0100011#7 ∨
    op = 0b1100011#7 ∨ op = 0b1100111#7 ∨ op = 0b0110111#7 ∨ Format.ofOpcode op = .Unknown) (fun n hn => ?_) op
  interval_cases n <;> decide

/-- The eight values of funct3. -/
theorem funct3_cases (f : BitVec 3) : f = 0b000#3 ∨ f = 0b001#3 ∨ f = 0b010#3 ∨ f = 0b011#3 ∨ f = 0b100#3 ∨
    f = 0b101#3 ∨ f = 0b110#3 ∨ f = 0b111#3 := by
  revert f; decide

theorem decodeOpcode_format (op : BitVec 7) (w : Word) : (decodeOpcode op w).format = Format.ofOpcode op := by
  refine forall_opcode (P := fun op => (decodeOpcode op w).format = Format.ofOpcode op) (fun n hn => ?_) op
  interval_cases n <;>
    first
      | rfl
      | exact decodeR_format w
      | exact decodeI_format w
      | exact decodeLoad_format w
      | exact decodeStore_format w
      | exact decodeBranch_format w

/-- The decoder's instruction is of the format the opcode classifies it as (R54, R55). -/
theorem decode_format (w : Word) : (decode w).format = Format.ofOpcode (opcodeField w) := decodeOpcode_format _ w

end Sys2Proof
end

