-- ==== Sys2Proof/Laws/Memory.lean ====
section
/-! SUPPORT. Byte memory: what a read gives after each write, and that every write keeps the canonical form. -/

namespace Sys2Proof.Machine

/-! ### Reads after writes -/

theorem Memory.read_of_wfFrom {m : Memory} {low a : Nat} (h : Memory.wfFrom low m = true) (ha : a < low) :
    m.read a = Memory.unlisted := by
  induction m generalizing low with
  | nil => rfl
  | cons c m ih =>
    obtain ⟨k, v⟩ := c
    simp only [Memory.wfFrom, Bool.and_eq_true, decide_eq_true_eq] at h
    rw [Memory.read, if_neg (by omega)]
    exact ih h.2 (by omega)

/-- One byte written to a canonical memory: it reads back, and every other address reads as before. -/
theorem Memory.read_write_from {m : Memory} {low : Nat} (h : Memory.wfFrom low m = true) (a : Nat) (b : Byte) (c : Nat) :
    (m.write a b).read c = if c = a then b else m.read c := by
  induction m generalizing low with
  | nil =>
    by_cases hb : b = Memory.unlisted <;> by_cases hc : c = a <;> simp [Memory.write, Memory.read, hb, hc]
  | cons e m ih =>
    obtain ⟨k, v⟩ := e
    have hm : Memory.wfFrom (k + 1) m = true := by
      simp only [Memory.wfFrom, Bool.and_eq_true] at h; exact h.2
    rcases Nat.lt_trichotomy a k with hak | hak | hak
    · have hold : Memory.read m a = Memory.unlisted := Memory.read_of_wfFrom hm (by omega)
      by_cases hb : b = Memory.unlisted
      · by_cases hc : c = a
        · subst hc; simp [Memory.write, Memory.read, hak, hb, hold, Nat.ne_of_lt hak]
        · simp [Memory.write, hak, hb, hc]
      · by_cases hc : c = a <;> simp [Memory.write, Memory.read, hak, hb, hc]
    · subst hak
      have hold : Memory.read m a = Memory.unlisted := Memory.read_of_wfFrom hm (by omega)
      by_cases hb : b = Memory.unlisted <;> by_cases hc : c = a <;>
        simp [Memory.write, Memory.read, hb, hc, hold]
    · rw [Memory.write, if_neg (by omega), if_neg (by omega), Memory.read, Memory.read, ih hm]
      by_cases hc : c = a
      · simp [hc, Nat.ne_of_gt hak]
      · simp [hc]

theorem Memory.read_write {m : Memory} (h : m.wf = true) (a : Nat) (b : Byte) (c : Nat) :
    (m.write a b).read c = if c = a then b else m.read c := Memory.read_write_from h a b c

/-! ### The canonical form -/

theorem Memory.wfFrom_mono {m : Memory} {lo hi : Nat} (h : Memory.wfFrom hi m = true) (hle : lo ≤ hi) :
    Memory.wfFrom lo m = true := by
  cases m with
  | nil => rfl
  | cons c m =>
    simp only [Memory.wfFrom, Bool.and_eq_true, decide_eq_true_eq] at h ⊢
    exact ⟨⟨by omega, h.1.2⟩, h.2⟩

theorem Memory.write_wfFrom {m : Memory} {low a : Nat} (h : Memory.wfFrom low m = true) (ha : low ≤ a) (b : Byte) :
    Memory.wfFrom low (m.write a b) = true := by
  induction m generalizing low with
  | nil => by_cases hb : b = Memory.unlisted <;> simp [Memory.write, Memory.wfFrom, hb, ha]
  | cons e m ih =>
    obtain ⟨k, v⟩ := e
    simp only [Memory.wfFrom, Bool.and_eq_true, decide_eq_true_eq] at h
    rcases Nat.lt_trichotomy a k with hak | hak | hak
    · by_cases hb : b = Memory.unlisted
      · simp [Memory.write, Memory.wfFrom, hak, hb, h.1.1, h.1.2, h.2]
      · simp [Memory.write, Memory.wfFrom, hak, hb, ha, h.1.2, h.2, Nat.succ_le_of_lt hak]
    · subst hak
      by_cases hb : b = Memory.unlisted
      · simpa [Memory.write, hb] using Memory.wfFrom_mono h.2 (by omega)
      · simp [Memory.write, Memory.wfFrom, hb, ha, h.2]
    · have := ih h.2 (by omega)
      simp [Memory.write, Memory.wfFrom, h.1.1, h.1.2, this, Nat.not_lt.mpr (Nat.le_of_lt hak), Nat.ne_of_gt hak]

/-- A write keeps the canonical form. -/
theorem Memory.write_wf {m : Memory} (h : m.wf = true) (a : Nat) (b : Byte) : (m.write a b).wf = true :=
  Memory.write_wfFrom h (Nat.zero_le a) b

theorem Memory.write_below {m : Memory} {size a : Nat} (h : m.below size = true) (ha : a < size) (b : Byte) :
    (m.write a b).below size = true := by
  induction m with
  | nil => by_cases hb : b = Memory.unlisted <;> simp [Memory.write, Memory.below, hb, ha]
  | cons e m ih =>
    obtain ⟨k, v⟩ := e
    have hk : k < size ∧ Memory.below size m = true := by simpa [Memory.below] using h
    have hm : ∀ (a : Nat) (b : Byte), (a, b) ∈ m → a < size := by simpa [Memory.below] using hk.2
    have := ih hk.2
    unfold Memory.write
    split
    · split <;> simp [Memory.below, ha, hk.1] <;> exact hm
    · split
      · split <;> simp [Memory.below, ha] <;> exact hm
      · simpa [Memory.below, hk.1] using this

/-- Canonical memories that read alike everywhere are equal. -/
theorem Memory.ext_wfFrom {m n : Memory} {lm ln : Nat} (hm : Memory.wfFrom lm m = true) (hn : Memory.wfFrom ln n = true)
    (h : ∀ a, m.read a = n.read a) : m = n := by
  induction m generalizing lm ln n with
  | nil =>
    cases n with
    | nil => rfl
    | cons e n =>
      obtain ⟨k, v⟩ := e
      simp only [Memory.wfFrom, Bool.and_eq_true, decide_eq_true_eq] at hn
      have := h k
      simp only [Memory.read, if_pos] at this
      exact absurd this.symm hn.1.2
  | cons e m ih =>
    obtain ⟨k, v⟩ := e
    have hm' := hm
    simp only [Memory.wfFrom, Bool.and_eq_true, decide_eq_true_eq] at hm
    cases n with
    | nil =>
      have := h k
      simp only [Memory.read, if_pos] at this
      exact absurd this hm.1.2
    | cons e' n =>
      obtain ⟨k', v'⟩ := e'
      have hn' := hn
      simp only [Memory.wfFrom, Bool.and_eq_true, decide_eq_true_eq] at hn
      have hkk : k = k' := by
        rcases Nat.lt_trichotomy k k' with hlt | heq | hgt
        · have h1 := h k
          rw [Memory.read, if_pos rfl, Memory.read, if_neg (by omega),
            Memory.read_of_wfFrom hn.2 (by omega)] at h1
          exact absurd h1 hm.1.2
        · exact heq
        · have h1 := h k'
          rw [Memory.read, if_neg (by omega), Memory.read_of_wfFrom hm.2 (by omega), Memory.read, if_pos rfl] at h1
          exact absurd h1.symm hn.1.2
      subst hkk
      have hv : v = v' := by simpa [Memory.read] using h k
      subst hv
      have : m = n := by
        refine ih hm.2 hn.2 fun a => ?_
        by_cases ha : a = k
        · subst ha
          rw [Memory.read_of_wfFrom hm.2 (by omega), Memory.read_of_wfFrom hn.2 (by omega)]
        · simpa [Memory.read, ha] using h a
      rw [this]

/-! ### The wider writes -/

theorem Memory.writeHalf_wf {m : Memory} (h : m.wf = true) (a : Nat) (v : Word) : (m.writeHalf a v).wf = true :=
  Memory.write_wf (Memory.write_wf h _ _) _ _

theorem Memory.writeWord_wf {m : Memory} (h : m.wf = true) (a : Nat) (v : Word) : (m.writeWord a v).wf = true :=
  Memory.writeHalf_wf (Memory.writeHalf_wf h _ _) _ _

theorem Memory.writeHalf_below {m : Memory} {size a : Nat} (h : m.below size = true) (ha : a + 2 ≤ size) (v : Word) :
    (m.writeHalf a v).below size = true :=
  Memory.write_below (Memory.write_below h (by omega) _) (by omega) _

theorem Memory.writeWord_below {m : Memory} {size a : Nat} (h : m.below size = true) (ha : a + 4 ≤ size) (v : Word) :
    (m.writeWord a v).below size = true :=
  Memory.writeHalf_below (Memory.writeHalf_below h (by omega) _) (by omega) _

/-- The narrow write form byte by byte (R35). -/
theorem Memory.read_writeHalf {m : Memory} (h : m.wf = true) (a : Nat) (v : Word) (c : Nat) :
    (m.writeHalf a v).read c =
      if c = a + 1 then v.extractLsb' 8 8 else if c = a then v.extractLsb' 0 8 else m.read c := by
  rw [Memory.writeHalf, Memory.read_write (Memory.write_wf h _ _), Memory.read_write h]

/-- The wide write form byte by byte (R35). -/
theorem Memory.read_writeWord {m : Memory} (h : m.wf = true) (a : Nat) (v : Word) (c : Nat) :
    (m.writeWord a v).read c =
      if c = a + 3 then v.extractLsb' 24 8 else if c = a + 2 then v.extractLsb' 16 8
      else if c = a + 1 then v.extractLsb' 8 8 else if c = a then v.extractLsb' 0 8 else m.read c := by
  rw [Memory.writeWord, Memory.read_writeHalf (Memory.writeHalf_wf h _ _), Memory.read_writeHalf h]
  have h1 : (v >>> 16).extractLsb' 8 8 = v.extractLsb' 24 8 := by ext i; simp; congr 1; omega
  have h0 : (v >>> 16).extractLsb' 0 8 = v.extractLsb' 16 8 := by ext i; simp
  rw [h1, h0, show a + 2 + 1 = a + 3 from rfl]

/-! ### The image loader -/

theorem Memory.writeBytes_wf {m : Memory} (h : m.wf = true) (a : Nat) (bs : List Byte) : (m.writeBytes a bs).wf = true := by
  induction bs generalizing m a with
  | nil => exact h
  | cons b bs ih => exact ih (Memory.write_wf h a b) (a + 1)

theorem Memory.writeBytes_below {m : Memory} {size a : Nat} {bs : List Byte} (h : m.below size = true)
    (ha : a + bs.length ≤ size) : (m.writeBytes a bs).below size = true := by
  induction bs generalizing m a with
  | nil => exact h
  | cons b bs ih =>
    simp only [List.length_cons] at ha
    exact ih (Memory.write_below h (by omega) b) (by omega)

/-- Loaded bytes read back in order; every other address reads as before (R125). -/
theorem Memory.read_writeBytes {m : Memory} (h : m.wf = true) (a : Nat) (bs : List Byte) (c : Nat) :
    (m.writeBytes a bs).read c = if a ≤ c then (bs[c - a]?).getD (m.read c) else m.read c := by
  induction bs generalizing m a with
  | nil => simp [Memory.writeBytes]
  | cons b bs ih =>
    rw [Memory.writeBytes, ih (Memory.write_wf h a b), Memory.read_write h]
    rcases Nat.lt_trichotomy c a with hc | hc | hc
    · simp [Nat.not_le.mpr hc, Nat.ne_of_lt hc, show ¬ a + 1 ≤ c by omega]
    · subst hc; simp
    · obtain ⟨d, rfl⟩ : ∃ d, c = a + 1 + d := ⟨c - (a + 1), by omega⟩
      have : a + 1 + d - a = d + 1 := by omega
      simp [this, show a ≤ a + 1 + d by omega, show ¬ (a + 1 + d = a) by omega]

end Sys2Proof.Machine
end

