-- ==== Sys2Proof/Laws/State.lean ====
section
/-! SUPPORT. The fields of a state after each update: one lemma per field per update. -/

namespace Sys2Proof.Machine

@[simp] theorem State.setPc_config (s : State) (v : Word) : (s.setPc v).config = s.config := rfl
@[simp] theorem State.setPc_regs (s : State) (v : Word) : (s.setPc v).regs = s.regs := rfl
@[simp] theorem State.setPc_pc (s : State) (v : Word) : (s.setPc v).pc = v := rfl
@[simp] theorem State.setPc_dmem (s : State) (v : Word) : (s.setPc v).dmem = s.dmem := rfl
@[simp] theorem State.setPc_imem (s : State) (v : Word) : (s.setPc v).imem = s.imem := rfl
@[simp] theorem State.setPc_imageLen (s : State) (v : Word) : (s.setPc v).imageLen = s.imageLen := rfl
@[simp] theorem State.setPc_faultMark (s : State) (v : Word) : (s.setPc v).faultMark = s.faultMark := rfl

@[simp] theorem State.setDmem_config (s : State) (m : Memory) : (s.setDmem m).config = s.config := rfl
@[simp] theorem State.setDmem_regs (s : State) (m : Memory) : (s.setDmem m).regs = s.regs := rfl
@[simp] theorem State.setDmem_pc (s : State) (m : Memory) : (s.setDmem m).pc = s.pc := rfl
@[simp] theorem State.setDmem_dmem (s : State) (m : Memory) : (s.setDmem m).dmem = m := rfl
@[simp] theorem State.setDmem_imem (s : State) (m : Memory) : (s.setDmem m).imem = s.imem := rfl
@[simp] theorem State.setDmem_imageLen (s : State) (m : Memory) : (s.setDmem m).imageLen = s.imageLen := rfl
@[simp] theorem State.setDmem_faultMark (s : State) (m : Memory) : (s.setDmem m).faultMark = s.faultMark := rfl

@[simp] theorem State.withFaultMark_config (s : State) (f : Fault) : (s.withFaultMark f).config = s.config := rfl
@[simp] theorem State.withFaultMark_regs (s : State) (f : Fault) : (s.withFaultMark f).regs = s.regs := rfl
@[simp] theorem State.withFaultMark_pc (s : State) (f : Fault) : (s.withFaultMark f).pc = s.pc := rfl
@[simp] theorem State.withFaultMark_dmem (s : State) (f : Fault) : (s.withFaultMark f).dmem = s.dmem := rfl
@[simp] theorem State.withFaultMark_imem (s : State) (f : Fault) : (s.withFaultMark f).imem = s.imem := rfl
@[simp] theorem State.withFaultMark_imageLen (s : State) (f : Fault) : (s.withFaultMark f).imageLen = s.imageLen := rfl
@[simp] theorem State.withFaultMark_faultMark (s : State) (f : Fault) : (s.withFaultMark f).faultMark = some f := rfl

@[simp] theorem State.writePort_config (s : State) (i : RegIdx) (v : Word) (en : Bool) :
    (s.writePort i v en).config = s.config := rfl
@[simp] theorem State.writePort_pc (s : State) (i : RegIdx) (v : Word) (en : Bool) :
    (s.writePort i v en).pc = s.pc := rfl
@[simp] theorem State.writePort_dmem (s : State) (i : RegIdx) (v : Word) (en : Bool) :
    (s.writePort i v en).dmem = s.dmem := rfl
@[simp] theorem State.writePort_imem (s : State) (i : RegIdx) (v : Word) (en : Bool) :
    (s.writePort i v en).imem = s.imem := rfl
@[simp] theorem State.writePort_imageLen (s : State) (i : RegIdx) (v : Word) (en : Bool) :
    (s.writePort i v en).imageLen = s.imageLen := rfl
@[simp] theorem State.writePort_faultMark (s : State) (i : RegIdx) (v : Word) (en : Bool) :
    (s.writePort i v en).faultMark = s.faultMark := rfl
@[simp] theorem State.setX_config (s : State) (i : RegIdx) (v : Word) : (s.setX i v).config = s.config := rfl
@[simp] theorem State.setX_pc (s : State) (i : RegIdx) (v : Word) : (s.setX i v).pc = s.pc := rfl
@[simp] theorem State.setX_dmem (s : State) (i : RegIdx) (v : Word) : (s.setX i v).dmem = s.dmem := rfl
@[simp] theorem State.setX_imem (s : State) (i : RegIdx) (v : Word) : (s.setX i v).imem = s.imem := rfl
@[simp] theorem State.setX_imageLen (s : State) (i : RegIdx) (v : Word) : (s.setX i v).imageLen = s.imageLen := rfl
@[simp] theorem State.setX_faultMark (s : State) (i : RegIdx) (v : Word) : (s.setX i v).faultMark = s.faultMark := rfl

/-! ### The read port after each update -/

@[simp] theorem State.x_zero (s : State) : s.x 0#5 = 0#32 := rfl

@[simp] theorem State.setPc_x (s : State) (v : Word) (j : RegIdx) : (s.setPc v).x j = s.x j := rfl
@[simp] theorem State.setDmem_x (s : State) (m : Memory) (j : RegIdx) : (s.setDmem m).x j = s.x j := rfl
@[simp] theorem State.withFaultMark_x (s : State) (f : Fault) (j : RegIdx) : (s.withFaultMark f).x j = s.x j := rfl

/-- A disabled write port changes nothing (R16). -/
@[simp] theorem State.writePort_disabled (s : State) (i : RegIdx) (v : Word) : s.writePort i v false = s := rfl

/-- What a read port shows after an enabled write: x0 stays 0, `i` holds the value, the rest is as it was (R14, R16). -/
theorem State.setX_x (s : State) (i : RegIdx) (v : Word) (j : RegIdx) :
    (s.setX i v).x j = if j = 0#5 then 0#32 else if j = i then v else s.x j := by
  by_cases hj : j = 0#5
  · simp [State.x, hj]
  · by_cases hi : i = 0#5
    · subst hi
      simp [State.setX, State.writePort, State.x, hj]
    · by_cases hij : j = i
      · subst hij
        simp [State.setX, State.writePort, State.x, hj]
      · have : i.toNat ≠ j.toNat := fun h => hij (BitVec.eq_of_toNat_eq h.symm)
        simp [State.setX, State.writePort, State.x, hj, hi, hij, this]

/-- No write reaches the stored entry of x0 (R16). -/
theorem State.writePort_regs_zero (s : State) (i : RegIdx) (v : Word) (en : Bool) :
    (s.writePort i v en).regs[0] = s.regs[0] := by
  by_cases hi : i = 0#5
  · simp [State.writePort, hi]
  · have : i.toNat ≠ 0 := fun h => hi (BitVec.eq_of_toNat_eq (by simpa using h))
    cases en <;> simp [State.writePort, hi, this]

@[simp] theorem State.setX_regs_zero (s : State) (i : RegIdx) (v : Word) :
    (s.setX i v).regs[0] = s.regs[0] := s.writePort_regs_zero i v true

end Sys2Proof.Machine
end

