-- ==== Sys2Proof/Laws/Ops.lean ====
section
/-! SUPPORT. What each shared operation can do, once, in the terms of Safety.lean. -/

namespace Sys2Proof.Machine

open Sys2Proof.Safety

@[simp] theorem dataInRange_iff (s : State) (addr : Word) (n : Nat) :
    s.dataInRange addr n = true ↔ addr.toNat + n ≤ s.config.dmemSize := by simp [State.dataInRange]

theorem loadWide_ok {s : State} {addr : Word} (h : addr.toNat + 4 ≤ s.config.dmemSize) :
    s.loadWide addr = .ok (dataWordAt s addr.toNat) := by
  rw [State.loadWide, if_pos ((dataInRange_iff ..).mpr h)]; rfl

theorem loadWide_error {s : State} {addr : Word} (h : s.config.dmemSize < addr.toNat + 4) :
    s.loadWide addr = .error (.dataOutOfRange addr 4) := by
  rw [State.loadWide, if_neg (by simpa using h)]

theorem loadNarrow_ok {s : State} {addr : Word} (h : addr.toNat + 1 ≤ s.config.dmemSize) :
    s.loadNarrow addr = .ok ((s.dmem.read addr.toNat).setWidth 32) := by
  rw [State.loadNarrow, if_pos ((dataInRange_iff ..).mpr h)]; rfl

theorem loadNarrow_error {s : State} {addr : Word} (h : s.config.dmemSize < addr.toNat + 1) :
    s.loadNarrow addr = .error (.dataOutOfRange addr 1) := by
  rw [State.loadNarrow, if_neg (by simpa using h)]

theorem storeWide_ok {s : State} {addr v : Word} (h : addr.toNat + 4 ≤ s.config.dmemSize) :
    s.storeWide addr v = .ok (s.dmem.writeWord addr.toNat v) := by
  rw [State.storeWide, if_pos ((dataInRange_iff ..).mpr h)]

theorem storeWide_error {s : State} {addr v : Word} (h : s.config.dmemSize < addr.toNat + 4) :
    s.storeWide addr v = .error (.dataOutOfRange addr 4) := by
  rw [State.storeWide, if_neg (by simpa using h)]

theorem storeNarrow_ok {s : State} {addr v : Word} (h : addr.toNat + 2 ≤ s.config.dmemSize) :
    s.storeNarrow addr v = .ok (s.dmem.writeHalf addr.toNat v) := by
  rw [State.storeNarrow, if_pos ((dataInRange_iff ..).mpr h)]

theorem storeNarrow_error {s : State} {addr v : Word} (h : s.config.dmemSize < addr.toNat + 2) :
    s.storeNarrow addr v = .error (.dataOutOfRange addr 2) := by
  rw [State.storeNarrow, if_neg (by simpa using h)]

/-- Everything an accepted wide store says: it was in range, and what memory it gives. -/
theorem storeWide_inv {s : State} {addr v : Word} {m : Memory} (h : s.storeWide addr v = .ok m) :
    addr.toNat + 4 ≤ s.config.dmemSize ∧ m = s.dmem.writeWord addr.toNat v := by
  rcases Nat.lt_or_ge s.config.dmemSize (addr.toNat + 4) with hr | hr
  · rw [storeWide_error hr] at h; cases h
  · rw [storeWide_ok hr] at h; cases h; exact ⟨hr, rfl⟩

/-- Everything an accepted narrow store says: it was in range, and what memory it gives. -/
theorem storeNarrow_inv {s : State} {addr v : Word} {m : Memory} (h : s.storeNarrow addr v = .ok m) :
    addr.toNat + 2 ≤ s.config.dmemSize ∧ m = s.dmem.writeHalf addr.toNat v := by
  rcases Nat.lt_or_ge s.config.dmemSize (addr.toNat + 2) with hr | hr
  · rw [storeNarrow_error hr] at h; cases h
  · rw [storeNarrow_ok hr] at h; cases h; exact ⟨hr, rfl⟩

theorem writeBack_result (rd : RegIdx) (v : Word) (s : State) :
    ∃ t, writeBack rd v s = .next t ∧ RegisterResult s t rd v :=
  ⟨_, rfl, s.setX_x rd v, rfl, fun _ => rfl, rfl, rfl, rfl, rfl⟩

theorem advance_result (s : State) : ∃ t, advance s = .next t ∧ PcResult s t (s.pc + 4#32) :=
  ⟨_, rfl, fun _ => rfl, rfl, fun _ => rfl, rfl, rfl, rfl, rfl⟩

theorem branchIfDiffer_result (rs1 rs2 : RegIdx) (offset : BitVec 13) (s : State) :
    ∃ t, branchIfDiffer rs1 rs2 offset s = .next t ∧ PcResult s t (s.branchTarget rs1 rs2 offset) :=
  ⟨_, rfl, fun _ => rfl, rfl, fun _ => rfl, rfl, rfl, rfl, rfl⟩

/-- The branch is taken exactly when the operands differ (R81, R104). -/
theorem branchTarget_eq (s : State) (rs1 rs2 : RegIdx) (offset : BitVec 13) :
    s.branchTarget rs1 rs2 offset = if s.x rs1 = s.x rs2 then s.pc + 4#32 else s.pc + offset.signExtend 32 := by
  have h : s.x rs1 - s.x rs2 = 0#32 ↔ s.x rs1 = s.x rs2 := by
    rw [BitVec.sub_eq_iff_eq_add, BitVec.zero_add]
  by_cases hx : s.x rs1 = s.x rs2
  · simp [State.branchTarget, differenceIsZero, zeroFlag, State.pcPlus4, hx]
  · have hn : ¬ (s.x rs1 - s.x rs2 = 0#32) := fun hz => hx (h.mp hz)
    simp only [State.branchTarget, differenceIsZero, zeroFlag, beq_iff_eq, if_neg hn, if_neg hx, sext13]

theorem storeWide_result {s : State} (hm : s.dmem.wf = true) {ea v : Word} (h : ea.toNat + 4 ≤ s.config.dmemSize) :
    ∃ t, storeInto (s.storeWide ea v) s = .next t ∧ StoreResult s t ea 4 v := by
  refine ⟨(s.setDmem (s.dmem.writeWord ea.toNat v)).setPc s.pcPlus4, by rw [storeWide_ok h]; rfl,
    fun _ => rfl, rfl, ⟨fun k hk => ?_, fun a ha => ?_⟩, rfl, rfl, rfl, rfl⟩
  · simp only [State.setPc_dmem, State.setDmem_dmem, Memory.read_writeWord hm]
    interval_cases k <;> simp
  · simp only [State.setPc_dmem, State.setDmem_dmem, Memory.read_writeWord hm]
    rw [if_neg (by omega), if_neg (by omega), if_neg (by omega), if_neg (by omega)]

theorem storeNarrow_result {s : State} (hm : s.dmem.wf = true) {ea v : Word} (h : ea.toNat + 2 ≤ s.config.dmemSize) :
    ∃ t, storeInto (s.storeNarrow ea v) s = .next t ∧ StoreResult s t ea 2 v := by
  refine ⟨(s.setDmem (s.dmem.writeHalf ea.toNat v)).setPc s.pcPlus4, by rw [storeNarrow_ok h]; rfl,
    fun _ => rfl, rfl, ⟨fun k hk => ?_, fun a ha => ?_⟩, rfl, rfl, rfl, rfl⟩
  · simp only [State.setPc_dmem, State.setDmem_dmem, Memory.read_writeHalf hm]
    interval_cases k <;> simp
  · simp only [State.setPc_dmem, State.setDmem_dmem, Memory.read_writeHalf hm]
    rw [if_neg (by omega), if_neg (by omega)]

/-! ### Fetching -/

theorem fetchWord_ok {s : State} (h : s.pc.toNat + 4 ≤ s.config.imemSize) :
    fetchWord s = .ok (instructionWordAt s s.pc.toNat) := by rw [fetchWord, if_pos h]; rfl

theorem fetchWord_error {s : State} (h : s.config.imemSize < s.pc.toNat + 4) :
    fetchWord s = .error (.fetchOutOfRange s.pc) := by rw [fetchWord, if_neg (by omega)]

theorem fetchWord_inv {s : State} {w : Word} (h : fetchWord s = .ok w) :
    s.pc.toNat + 4 ≤ s.config.imemSize ∧ w = instructionWordAt s s.pc.toNat := by
  rcases Nat.lt_or_ge s.config.imemSize (s.pc.toNat + 4) with hr | hr
  · rw [fetchWord_error hr] at h; cases h
  · rw [fetchWord_ok hr] at h; cases h; exact ⟨hr, rfl⟩

end Sys2Proof.Machine
end

