-- ==== Sys2Proof/Laws/Exec.lean ====
section
/-! SUPPORT. What `exec` and `step` can do: the cases of a next state, the cases of a fault, and that nothing is refused.
Later proofs cite these lemmas and unfold no meaning. -/

namespace Sys2Proof.Machine

open Sys2Proof.Safety

/-- Every Unknown-format instruction only advances the pc (R108). -/
theorem exec_unknown {i : Instr} (h : i.format = .Unknown) (s : State) : exec i s = advance s := by
  cases i <;> first | rfl | exact absurd h (by decide) | cases h

/-- Every way `exec` answers a next state: a register write back, a store, the pc alone, or a jump and link. -/
theorem exec_next {i : Instr} {s t : State} (h : exec i s = .next t) :
    (∃ rd v, t = (s.setX rd v).setPc s.pcPlus4) ∨
    (∃ ea v m, (s.storeWide ea v = .ok m ∨ s.storeNarrow ea v = .ok m) ∧ t = (s.setDmem m).setPc s.pcPlus4) ∨
    (∃ target, t = s.setPc target) ∨
    (∃ rd target, t = (s.setX rd s.pcPlus4).setPc target) := by
  have load : ∀ {rd : RegIdx} {e : Except Fault Word}, loadInto rd e s = .next t →
      ∃ rd v, t = (s.setX rd v).setPc s.pcPlus4 := by
    intro rd e h
    cases e with
    | error f => cases h
    | ok v => exact ⟨rd, v, (Host.Outcome.next.inj h).symm⟩
  have store : ∀ {e : Except Fault Memory}, storeInto e s = .next t →
      ∃ m, e = .ok m ∧ t = (s.setDmem m).setPc s.pcPlus4 := by
    intro e h
    cases e with
    | error f => cases h
    | ok m => exact ⟨m, rfl, (Host.Outcome.next.inj h).symm⟩
  cases i with
  | jalr rd rs1 imm => exact .inr (.inr (.inr ⟨_, _, (Host.Outcome.next.inj h).symm⟩))
  | sw rs2 rs1 imm => obtain ⟨m, hm, ht⟩ := store h; exact .inr (.inl ⟨_, _, m, .inl hm, ht⟩)
  | sbEncoding rs2 rs1 imm | sh rs2 rs1 imm | storeFunct3_011 rs2 rs1 imm | storeFunct3_100 rs2 rs1 imm
  | storeFunct3_101 rs2 rs1 imm | storeFunct3_110 rs2 rs1 imm | storeFunct3_111 rs2 rs1 imm =>
    obtain ⟨m, hm, ht⟩ := store h; exact .inr (.inl ⟨_, _, m, .inr hm, ht⟩)
  | _ =>
    first
      | exact .inr (.inr (.inl ⟨_, (Host.Outcome.next.inj h).symm⟩))
      | exact .inl (load h)
      | exact .inl ⟨_, _, (Host.Outcome.next.inj h).symm⟩

/-- Every way `exec` faults: a load or store outside data memory, with its address and its byte count (R40). -/
theorem exec_fault {i : Instr} {s : State} {f : Fault} (h : exec i s = .fault f) :
    ∃ ea n, f = .dataOutOfRange ea n ∧ s.config.dmemSize < ea.toNat + n := by
  have loadW : ∀ {rd : RegIdx} {ea : Word}, loadInto rd (s.loadWide ea) s = .fault f →
      ∃ ea n, f = .dataOutOfRange ea n ∧ s.config.dmemSize < ea.toNat + n := by
    intro rd ea h
    rcases Nat.lt_or_ge s.config.dmemSize (ea.toNat + 4) with hr | hr
    · rw [loadWide_error hr] at h; cases h; exact ⟨ea, 4, rfl, hr⟩
    · rw [loadWide_ok hr] at h; cases h
  have loadN : ∀ {rd : RegIdx} {ea : Word}, loadInto rd (s.loadNarrow ea) s = .fault f →
      ∃ ea n, f = .dataOutOfRange ea n ∧ s.config.dmemSize < ea.toNat + n := by
    intro rd ea h
    rcases Nat.lt_or_ge s.config.dmemSize (ea.toNat + 1) with hr | hr
    · rw [loadNarrow_error hr] at h; cases h; exact ⟨ea, 1, rfl, hr⟩
    · rw [loadNarrow_ok hr] at h; cases h
  have storeW : ∀ {ea v : Word}, storeInto (s.storeWide ea v) s = .fault f →
      ∃ ea n, f = .dataOutOfRange ea n ∧ s.config.dmemSize < ea.toNat + n := by
    intro ea v h
    rcases Nat.lt_or_ge s.config.dmemSize (ea.toNat + 4) with hr | hr
    · rw [storeWide_error hr] at h; cases h; exact ⟨ea, 4, rfl, hr⟩
    · rw [storeWide_ok hr] at h; cases h
  have storeN : ∀ {ea v : Word}, storeInto (s.storeNarrow ea v) s = .fault f →
      ∃ ea n, f = .dataOutOfRange ea n ∧ s.config.dmemSize < ea.toNat + n := by
    intro ea v h
    rcases Nat.lt_or_ge s.config.dmemSize (ea.toNat + 2) with hr | hr
    · rw [storeNarrow_error hr] at h; cases h; exact ⟨ea, 2, rfl, hr⟩
    · rw [storeNarrow_ok hr] at h; cases h
  cases i <;> first | exact loadW h | exact loadN h | exact storeW h | exact storeN h | cases h

/-- No instruction is refused: every one has a meaning. -/
theorem exec_not_refused (i : Instr) (s : State) (r : Refusal) : exec i s ≠ .refused r := by
  have load : ∀ (rd : RegIdx) (e : Except Fault Word), loadInto rd e s ≠ .refused r := by
    intro rd e h; cases e <;> cases h
  have store : ∀ (e : Except Fault Memory), storeInto e s ≠ .refused r := by
    intro e h; cases e <;> cases h
  intro h
  cases i <;> first | exact load _ _ h | exact store _ h | cases h

/-! ### One cycle -/

theorem step_eq {s : State} (hf : s.faultMark = none) (h : s.pc.toNat + 4 ≤ s.config.imemSize) :
    step s = exec (decode (instructionWordAt s s.pc.toNat)) s := by
  rw [step, hf]; simp only [fetchWord_ok h]

theorem step_fetchFault {s : State} (hf : s.faultMark = none) (h : s.config.imemSize < s.pc.toNat + 4) :
    step s = .fault (.fetchOutOfRange s.pc) := by
  rw [step, hf]; simp only [fetchWord_error h]

theorem step_marked {s : State} {f : Fault} (hf : s.faultMark = some f) : step s = .fault f := by
  rw [step, hf]

/-- Everything a cycle with a next state says: the mark is clear, the word at the pc was fetched, and the state is what
`exec` answers for it. -/
theorem step_next {s t : State} (h : step s = .next t) :
    s.faultMark = none ∧ s.pc.toNat + 4 ≤ s.config.imemSize ∧
      exec (decode (instructionWordAt s s.pc.toNat)) s = .next t := by
  cases hf : s.faultMark with
  | some f => rw [step_marked hf] at h; cases h
  | none =>
    rcases Nat.lt_or_ge s.config.imemSize (s.pc.toNat + 4) with hr | hr
    · rw [step_fetchFault hf hr] at h; cases h
    · rw [step_eq hf hr] at h; exact ⟨rfl, hr, h⟩

/-- A cycle keeps the canonical form of data memory. -/
theorem step_dmem_wf {s t : State} (hm : s.dmem.wf = true) (h : step s = .next t) : t.dmem.wf = true := by
  obtain ⟨-, -, he⟩ := step_next h
  obtain ⟨rd, v, rfl⟩ | ⟨ea, v, m, hs | hs, rfl⟩ | ⟨target, rfl⟩ | ⟨rd, target, rfl⟩ := exec_next he
  · exact hm
  · obtain ⟨-, rfl⟩ := storeWide_inv hs; exact Memory.writeWord_wf hm _ _
  · obtain ⟨-, rfl⟩ := storeNarrow_inv hs; exact Memory.writeHalf_wf hm _ _
  · exact hm
  · exact hm

/-- A cycle keeps the configuration, instruction memory, the image length and the fault mark (R48). -/
theorem step_runParametersKept {s t : State} (h : step s = .next t) : RunParametersKept s t := by
  obtain ⟨rd, v, rfl⟩ | ⟨ea, v, m, hs, rfl⟩ | ⟨target, rfl⟩ | ⟨rd, target, rfl⟩ := exec_next (step_next h).2.2 <;>
    exact ⟨rfl, rfl, rfl, rfl⟩

/-- A run can be extended at its first cycle. -/
theorem reaches_head {s t u : State} (h : step s = .next t) (hr : Reaches t u) : Reaches s u := by
  induction hr with
  | refl => exact .tail .refl h
  | tail _ hs ih => exact .tail ih hs

end Sys2Proof.Machine
end

