-- ==== Sys2Proof/Laws/PerInstr.lean ====
section
/-! SUPPORT. Laws stated per instruction, one lemma per constructor of Instr. -/

namespace Sys2Proof.Laws

/-! ### The word of an instruction selects the instruction's own row of the opcode map (R71) -/

theorem encodeR_row (b : Bool) (f : BitVec 3) (rd rs1 rs2 : RegIdx) :
    encodeR b f rd rs1 rs2 &&& 0x0000707F#32 = (f.setWidth 32 <<< 12) ||| (0b0110011#7).setWidth 32 := by
  rw [and_funct3Mask]; simp

theorem encodeR_bit30Row (b : Bool) (f : BitVec 3) (rd rs1 rs2 : RegIdx) :
    encodeR b f rd rs1 rs2 &&& 0x4000707F#32 =
      ((BitVec.ofBool b).setWidth 32 <<< 30) ||| ((f.setWidth 32 <<< 12) ||| (0b0110011#7).setWidth 32) := by
  rw [and_bit30Mask]; simp

theorem encodeI_row (op : BitVec 7) (f : BitVec 3) (rd rs1 : RegIdx) (imm : BitVec 12) :
    encodeI op f rd rs1 imm &&& 0x0000707F#32 = (f.setWidth 32 <<< 12) ||| op.setWidth 32 := by
  rw [and_funct3Mask]; simp

theorem encodeS_row (f : BitVec 3) (rs2 rs1 : RegIdx) (imm : BitVec 12) :
    encodeS f rs2 rs1 imm &&& 0x0000707F#32 = (f.setWidth 32 <<< 12) ||| (0b0100011#7).setWidth 32 := by
  rw [and_funct3Mask]; simp

theorem encodeB_row (f : BitVec 3) (rs1 rs2 : RegIdx) (offset : BitVec 13) :
    encodeB f rs1 rs2 offset &&& 0x0000707F#32 = (f.setWidth 32 <<< 12) ||| (0b1100011#7).setWidth 32 := by
  rw [and_funct3Mask]; simp

theorem encodeI_opcodeRow (op : BitVec 7) (f : BitVec 3) (rd rs1 : RegIdx) (imm : BitVec 12) :
    encodeI op f rd rs1 imm &&& 0x0000007F#32 = op.setWidth 32 := by
  rw [and_opcodeMask]; simp

theorem encodeU_row (rd : RegIdx) (imm20 : BitVec 20) :
    encodeU rd imm20 &&& 0x0000007F#32 = (0b0110111#7).setWidth 32 := by
  rw [and_opcodeMask]; simp

theorem encodeUnknown_row (op : BitVec 7) : encodeUnknown op &&& 0x0000007F#32 = op.setWidth 32 := by
  rw [and_opcodeMask]; simp

/-- The encoded word of `i`, under the mask of `i`'s row, is the row's match. -/
def EncodeSelectsRow.Statement (i : Instr) : Prop := encode i &&& i.rowMask = i.rowMatch

theorem EncodeSelectsRow.add (rd rs1 rs2 : RegIdx) :
    EncodeSelectsRow.Statement (.add rd rs1 rs2) := encodeR_bit30Row _ _ _ _ _
theorem EncodeSelectsRow.sub (rd rs1 rs2 : RegIdx) :
    EncodeSelectsRow.Statement (.sub rd rs1 rs2) := encodeR_bit30Row _ _ _ _ _
theorem EncodeSelectsRow.sllEncoding (rd rs1 rs2 : RegIdx) :
    EncodeSelectsRow.Statement (.sllEncoding rd rs1 rs2) := encodeR_row _ _ _ _ _
theorem EncodeSelectsRow.sltEncoding (rd rs1 rs2 : RegIdx) :
    EncodeSelectsRow.Statement (.sltEncoding rd rs1 rs2) := encodeR_row _ _ _ _ _
theorem EncodeSelectsRow.sltuEncoding (rd rs1 rs2 : RegIdx) :
    EncodeSelectsRow.Statement (.sltuEncoding rd rs1 rs2) := encodeR_row _ _ _ _ _
theorem EncodeSelectsRow.xorEncoding (rd rs1 rs2 : RegIdx) :
    EncodeSelectsRow.Statement (.xorEncoding rd rs1 rs2) := encodeR_row _ _ _ _ _
theorem EncodeSelectsRow.sra (rd rs1 rs2 : RegIdx) :
    EncodeSelectsRow.Statement (.sra rd rs1 rs2) := encodeR_row _ _ _ _ _
theorem EncodeSelectsRow.or (rd rs1 rs2 : RegIdx) :
    EncodeSelectsRow.Statement (.or rd rs1 rs2) := encodeR_row _ _ _ _ _
theorem EncodeSelectsRow.and (rd rs1 rs2 : RegIdx) :
    EncodeSelectsRow.Statement (.and rd rs1 rs2) := encodeR_row _ _ _ _ _
theorem EncodeSelectsRow.addi (rd rs1 : RegIdx) (imm : BitVec 12) :
    EncodeSelectsRow.Statement (.addi rd rs1 imm) := encodeI_row _ _ _ _ _
theorem EncodeSelectsRow.slliEncoding (rd rs1 : RegIdx) (imm : BitVec 12) :
    EncodeSelectsRow.Statement (.slliEncoding rd rs1 imm) := encodeI_row _ _ _ _ _
theorem EncodeSelectsRow.sltiEncoding (rd rs1 : RegIdx) (imm : BitVec 12) :
    EncodeSelectsRow.Statement (.sltiEncoding rd rs1 imm) := encodeI_row _ _ _ _ _
theorem EncodeSelectsRow.sltiu (rd rs1 : RegIdx) (imm : BitVec 12) :
    EncodeSelectsRow.Statement (.sltiu rd rs1 imm) := encodeI_row _ _ _ _ _
theorem EncodeSelectsRow.xoriEncoding (rd rs1 : RegIdx) (imm : BitVec 12) :
    EncodeSelectsRow.Statement (.xoriEncoding rd rs1 imm) := encodeI_row _ _ _ _ _
theorem EncodeSelectsRow.srliSraiEncoding (rd rs1 : RegIdx) (imm : BitVec 12) :
    EncodeSelectsRow.Statement (.srliSraiEncoding rd rs1 imm) := encodeI_row _ _ _ _ _
theorem EncodeSelectsRow.ori (rd rs1 : RegIdx) (imm : BitVec 12) :
    EncodeSelectsRow.Statement (.ori rd rs1 imm) := encodeI_row _ _ _ _ _
theorem EncodeSelectsRow.andiEncoding (rd rs1 : RegIdx) (imm : BitVec 12) :
    EncodeSelectsRow.Statement (.andiEncoding rd rs1 imm) := encodeI_row _ _ _ _ _
theorem EncodeSelectsRow.lbEncoding (rd rs1 : RegIdx) (imm : BitVec 12) :
    EncodeSelectsRow.Statement (.lbEncoding rd rs1 imm) := encodeI_row _ _ _ _ _
theorem EncodeSelectsRow.lhEncoding (rd rs1 : RegIdx) (imm : BitVec 12) :
    EncodeSelectsRow.Statement (.lhEncoding rd rs1 imm) := encodeI_row _ _ _ _ _
theorem EncodeSelectsRow.lw (rd rs1 : RegIdx) (imm : BitVec 12) :
    EncodeSelectsRow.Statement (.lw rd rs1 imm) := encodeI_row _ _ _ _ _
theorem EncodeSelectsRow.loadFunct3_011 (rd rs1 : RegIdx) (imm : BitVec 12) :
    EncodeSelectsRow.Statement (.loadFunct3_011 rd rs1 imm) := encodeI_row _ _ _ _ _
theorem EncodeSelectsRow.lbu (rd rs1 : RegIdx) (imm : BitVec 12) :
    EncodeSelectsRow.Statement (.lbu rd rs1 imm) := encodeI_row _ _ _ _ _
theorem EncodeSelectsRow.lhuEncoding (rd rs1 : RegIdx) (imm : BitVec 12) :
    EncodeSelectsRow.Statement (.lhuEncoding rd rs1 imm) := encodeI_row _ _ _ _ _
theorem EncodeSelectsRow.loadFunct3_110 (rd rs1 : RegIdx) (imm : BitVec 12) :
    EncodeSelectsRow.Statement (.loadFunct3_110 rd rs1 imm) := encodeI_row _ _ _ _ _
theorem EncodeSelectsRow.loadFunct3_111 (rd rs1 : RegIdx) (imm : BitVec 12) :
    EncodeSelectsRow.Statement (.loadFunct3_111 rd rs1 imm) := encodeI_row _ _ _ _ _
theorem EncodeSelectsRow.sbEncoding (rs2 rs1 : RegIdx) (imm : BitVec 12) :
    EncodeSelectsRow.Statement (.sbEncoding rs2 rs1 imm) := encodeS_row _ _ _ _
theorem EncodeSelectsRow.sh (rs2 rs1 : RegIdx) (imm : BitVec 12) :
    EncodeSelectsRow.Statement (.sh rs2 rs1 imm) := encodeS_row _ _ _ _
theorem EncodeSelectsRow.sw (rs2 rs1 : RegIdx) (imm : BitVec 12) :
    EncodeSelectsRow.Statement (.sw rs2 rs1 imm) := encodeS_row _ _ _ _
theorem EncodeSelectsRow.storeFunct3_011 (rs2 rs1 : RegIdx) (imm : BitVec 12) :
    EncodeSelectsRow.Statement (.storeFunct3_011 rs2 rs1 imm) := encodeS_row _ _ _ _
theorem EncodeSelectsRow.storeFunct3_100 (rs2 rs1 : RegIdx) (imm : BitVec 12) :
    EncodeSelectsRow.Statement (.storeFunct3_100 rs2 rs1 imm) := encodeS_row _ _ _ _
theorem EncodeSelectsRow.storeFunct3_101 (rs2 rs1 : RegIdx) (imm : BitVec 12) :
    EncodeSelectsRow.Statement (.storeFunct3_101 rs2 rs1 imm) := encodeS_row _ _ _ _
theorem EncodeSelectsRow.storeFunct3_110 (rs2 rs1 : RegIdx) (imm : BitVec 12) :
    EncodeSelectsRow.Statement (.storeFunct3_110 rs2 rs1 imm) := encodeS_row _ _ _ _
theorem EncodeSelectsRow.storeFunct3_111 (rs2 rs1 : RegIdx) (imm : BitVec 12) :
    EncodeSelectsRow.Statement (.storeFunct3_111 rs2 rs1 imm) := encodeS_row _ _ _ _
theorem EncodeSelectsRow.beqEncoding (rs1 rs2 : RegIdx) (offset : BitVec 13) :
    EncodeSelectsRow.Statement (.beqEncoding rs1 rs2 offset) := encodeB_row _ _ _ _
theorem EncodeSelectsRow.bne (rs1 rs2 : RegIdx) (offset : BitVec 13) :
    EncodeSelectsRow.Statement (.bne rs1 rs2 offset) := encodeB_row _ _ _ _
theorem EncodeSelectsRow.branchFunct3_010 (rs1 rs2 : RegIdx) (offset : BitVec 13) :
    EncodeSelectsRow.Statement (.branchFunct3_010 rs1 rs2 offset) := encodeB_row _ _ _ _
theorem EncodeSelectsRow.branchFunct3_011 (rs1 rs2 : RegIdx) (offset : BitVec 13) :
    EncodeSelectsRow.Statement (.branchFunct3_011 rs1 rs2 offset) := encodeB_row _ _ _ _
theorem EncodeSelectsRow.bltEncoding (rs1 rs2 : RegIdx) (offset : BitVec 13) :
    EncodeSelectsRow.Statement (.bltEncoding rs1 rs2 offset) := encodeB_row _ _ _ _
theorem EncodeSelectsRow.bgeEncoding (rs1 rs2 : RegIdx) (offset : BitVec 13) :
    EncodeSelectsRow.Statement (.bgeEncoding rs1 rs2 offset) := encodeB_row _ _ _ _
theorem EncodeSelectsRow.bltuEncoding (rs1 rs2 : RegIdx) (offset : BitVec 13) :
    EncodeSelectsRow.Statement (.bltuEncoding rs1 rs2 offset) := encodeB_row _ _ _ _
theorem EncodeSelectsRow.bgeuEncoding (rs1 rs2 : RegIdx) (offset : BitVec 13) :
    EncodeSelectsRow.Statement (.bgeuEncoding rs1 rs2 offset) := encodeB_row _ _ _ _
theorem EncodeSelectsRow.jalr (rd rs1 : RegIdx) (imm : BitVec 12) :
    EncodeSelectsRow.Statement (.jalr rd rs1 imm) := encodeI_opcodeRow _ _ _ _ _
theorem EncodeSelectsRow.lui (rd : RegIdx) (imm20 : BitVec 20) :
    EncodeSelectsRow.Statement (.lui rd imm20) := encodeU_row _ _
theorem EncodeSelectsRow.unknown0000000 :
    EncodeSelectsRow.Statement .unknown0000000 := encodeUnknown_row _
theorem EncodeSelectsRow.unknown0000001 :
    EncodeSelectsRow.Statement .unknown0000001 := encodeUnknown_row _
theorem EncodeSelectsRow.unknown0000010 :
    EncodeSelectsRow.Statement .unknown0000010 := encodeUnknown_row _
theorem EncodeSelectsRow.unknown0000100 :
    EncodeSelectsRow.Statement .unknown0000100 := encodeUnknown_row _
theorem EncodeSelectsRow.unknown0000101 :
    EncodeSelectsRow.Statement .unknown0000101 := encodeUnknown_row _
theorem EncodeSelectsRow.unknown0000110 :
    EncodeSelectsRow.Statement .unknown0000110 := encodeUnknown_row _
theorem EncodeSelectsRow.unknown0000111 :
    EncodeSelectsRow.Statement .unknown0000111 := encodeUnknown_row _
theorem EncodeSelectsRow.unknown0001000 :
    EncodeSelectsRow.Statement .unknown0001000 := encodeUnknown_row _
theorem EncodeSelectsRow.unknown0001001 :
    EncodeSelectsRow.Statement .unknown0001001 := encodeUnknown_row _
theorem EncodeSelectsRow.unknown0001010 :
    EncodeSelectsRow.Statement .unknown0001010 := encodeUnknown_row _
theorem EncodeSelectsRow.unknown0001011 :
    EncodeSelectsRow.Statement .unknown0001011 := encodeUnknown_row _
theorem EncodeSelectsRow.unknown0001100 :
    EncodeSelectsRow.Statement .unknown0001100 := encodeUnknown_row _
theorem EncodeSelectsRow.unknown0001101 :
    EncodeSelectsRow.Statement .unknown0001101 := encodeUnknown_row _
theorem EncodeSelectsRow.unknown0001110 :
    EncodeSelectsRow.Statement .unknown0001110 := encodeUnknown_row _
theorem EncodeSelectsRow.unknown0001111 :
    EncodeSelectsRow.Statement .unknown0001111 := encodeUnknown_row _
theorem EncodeSelectsRow.unknown0010000 :
    EncodeSelectsRow.Statement .unknown0010000 := encodeUnknown_row _
theorem EncodeSelectsRow.unknown0010001 :
    EncodeSelectsRow.Statement .unknown0010001 := encodeUnknown_row _
theorem EncodeSelectsRow.unknown0010010 :
    EncodeSelectsRow.Statement .unknown0010010 := encodeUnknown_row _
theorem EncodeSelectsRow.unknown0010100 :
    EncodeSelectsRow.Statement .unknown0010100 := encodeUnknown_row _
theorem EncodeSelectsRow.unknown0010101 :
    EncodeSelectsRow.Statement .unknown0010101 := encodeUnknown_row _
theorem EncodeSelectsRow.unknown0010110 :
    EncodeSelectsRow.Statement .unknown0010110 := encodeUnknown_row _
theorem EncodeSelectsRow.unknown0010111 :
    EncodeSelectsRow.Statement .unknown0010111 := encodeUnknown_row _
theorem EncodeSelectsRow.unknown0011000 :
    EncodeSelectsRow.Statement .unknown0011000 := encodeUnknown_row _
theorem EncodeSelectsRow.unknown0011001 :
    EncodeSelectsRow.Statement .unknown0011001 := encodeUnknown_row _
theorem EncodeSelectsRow.unknown0011010 :
    EncodeSelectsRow.Statement .unknown0011010 := encodeUnknown_row _
theorem EncodeSelectsRow.unknown0011011 :
    EncodeSelectsRow.Statement .unknown0011011 := encodeUnknown_row _
theorem EncodeSelectsRow.unknown0011100 :
    EncodeSelectsRow.Statement .unknown0011100 := encodeUnknown_row _
theorem EncodeSelectsRow.unknown0011101 :
    EncodeSelectsRow.Statement .unknown0011101 := encodeUnknown_row _
theorem EncodeSelectsRow.unknown0011110 :
    EncodeSelectsRow.Statement .unknown0011110 := encodeUnknown_row _
theorem EncodeSelectsRow.unknown0011111 :
    EncodeSelectsRow.Statement .unknown0011111 := encodeUnknown_row _
theorem EncodeSelectsRow.unknown0100000 :
    EncodeSelectsRow.Statement .unknown0100000 := encodeUnknown_row _
theorem EncodeSelectsRow.unknown0100001 :
    EncodeSelectsRow.Statement .unknown0100001 := encodeUnknown_row _
theorem EncodeSelectsRow.unknown0100010 :
    EncodeSelectsRow.Statement .unknown0100010 := encodeUnknown_row _
theorem EncodeSelectsRow.unknown0100100 :
    EncodeSelectsRow.Statement .unknown0100100 := encodeUnknown_row _
theorem EncodeSelectsRow.unknown0100101 :
    EncodeSelectsRow.Statement .unknown0100101 := encodeUnknown_row _
theorem EncodeSelectsRow.unknown0100110 :
    EncodeSelectsRow.Statement .unknown0100110 := encodeUnknown_row _
theorem EncodeSelectsRow.unknown0100111 :
    EncodeSelectsRow.Statement .unknown0100111 := encodeUnknown_row _
theorem EncodeSelectsRow.unknown0101000 :
    EncodeSelectsRow.Statement .unknown0101000 := encodeUnknown_row _
theorem EncodeSelectsRow.unknown0101001 :
    EncodeSelectsRow.Statement .unknown0101001 := encodeUnknown_row _
theorem EncodeSelectsRow.unknown0101010 :
    EncodeSelectsRow.Statement .unknown0101010 := encodeUnknown_row _
theorem EncodeSelectsRow.unknown0101011 :
    EncodeSelectsRow.Statement .unknown0101011 := encodeUnknown_row _
theorem EncodeSelectsRow.unknown0101100 :
    EncodeSelectsRow.Statement .unknown0101100 := encodeUnknown_row _
theorem EncodeSelectsRow.unknown0101101 :
    EncodeSelectsRow.Statement .unknown0101101 := encodeUnknown_row _
theorem EncodeSelectsRow.unknown0101110 :
    EncodeSelectsRow.Statement .unknown0101110 := encodeUnknown_row _
theorem EncodeSelectsRow.unknown0101111 :
    EncodeSelectsRow.Statement .unknown0101111 := encodeUnknown_row _
theorem EncodeSelectsRow.unknown0110000 :
    EncodeSelectsRow.Statement .unknown0110000 := encodeUnknown_row _
theorem EncodeSelectsRow.unknown0110001 :
    EncodeSelectsRow.Statement .unknown0110001 := encodeUnknown_row _
theorem EncodeSelectsRow.unknown0110010 :
    EncodeSelectsRow.Statement .unknown0110010 := encodeUnknown_row _
theorem EncodeSelectsRow.unknown0110100 :
    EncodeSelectsRow.Statement .unknown0110100 := encodeUnknown_row _
theorem EncodeSelectsRow.unknown0110101 :
    EncodeSelectsRow.Statement .unknown0110101 := encodeUnknown_row _
theorem EncodeSelectsRow.unknown0110110 :
    EncodeSelectsRow.Statement .unknown0110110 := encodeUnknown_row _
theorem EncodeSelectsRow.unknown0111000 :
    EncodeSelectsRow.Statement .unknown0111000 := encodeUnknown_row _
theorem EncodeSelectsRow.unknown0111001 :
    EncodeSelectsRow.Statement .unknown0111001 := encodeUnknown_row _
theorem EncodeSelectsRow.unknown0111010 :
    EncodeSelectsRow.Statement .unknown0111010 := encodeUnknown_row _
theorem EncodeSelectsRow.unknown0111011 :
    EncodeSelectsRow.Statement .unknown0111011 := encodeUnknown_row _
theorem EncodeSelectsRow.unknown0111100 :
    EncodeSelectsRow.Statement .unknown0111100 := encodeUnknown_row _
theorem EncodeSelectsRow.unknown0111101 :
    EncodeSelectsRow.Statement .unknown0111101 := encodeUnknown_row _
theorem EncodeSelectsRow.unknown0111110 :
    EncodeSelectsRow.Statement .unknown0111110 := encodeUnknown_row _
theorem EncodeSelectsRow.unknown0111111 :
    EncodeSelectsRow.Statement .unknown0111111 := encodeUnknown_row _
theorem EncodeSelectsRow.unknown1000000 :
    EncodeSelectsRow.Statement .unknown1000000 := encodeUnknown_row _
theorem EncodeSelectsRow.unknown1000001 :
    EncodeSelectsRow.Statement .unknown1000001 := encodeUnknown_row _
theorem EncodeSelectsRow.unknown1000010 :
    EncodeSelectsRow.Statement .unknown1000010 := encodeUnknown_row _
theorem EncodeSelectsRow.unknown1000011 :
    EncodeSelectsRow.Statement .unknown1000011 := encodeUnknown_row _
theorem EncodeSelectsRow.unknown1000100 :
    EncodeSelectsRow.Statement .unknown1000100 := encodeUnknown_row _
theorem EncodeSelectsRow.unknown1000101 :
    EncodeSelectsRow.Statement .unknown1000101 := encodeUnknown_row _
theorem EncodeSelectsRow.unknown1000110 :
    EncodeSelectsRow.Statement .unknown1000110 := encodeUnknown_row _
theorem EncodeSelectsRow.unknown1000111 :
    EncodeSelectsRow.Statement .unknown1000111 := encodeUnknown_row _
theorem EncodeSelectsRow.unknown1001000 :
    EncodeSelectsRow.Statement .unknown1001000 := encodeUnknown_row _
theorem EncodeSelectsRow.unknown1001001 :
    EncodeSelectsRow.Statement .unknown1001001 := encodeUnknown_row _
theorem EncodeSelectsRow.unknown1001010 :
    EncodeSelectsRow.Statement .unknown1001010 := encodeUnknown_row _
theorem EncodeSelectsRow.unknown1001011 :
    EncodeSelectsRow.Statement .unknown1001011 := encodeUnknown_row _
theorem EncodeSelectsRow.unknown1001100 :
    EncodeSelectsRow.Statement .unknown1001100 := encodeUnknown_row _
theorem EncodeSelectsRow.unknown1001101 :
    EncodeSelectsRow.Statement .unknown1001101 := encodeUnknown_row _
theorem EncodeSelectsRow.unknown1001110 :
    EncodeSelectsRow.Statement .unknown1001110 := encodeUnknown_row _
theorem EncodeSelectsRow.unknown1001111 :
    EncodeSelectsRow.Statement .unknown1001111 := encodeUnknown_row _
theorem EncodeSelectsRow.unknown1010000 :
    EncodeSelectsRow.Statement .unknown1010000 := encodeUnknown_row _
theorem EncodeSelectsRow.unknown1010001 :
    EncodeSelectsRow.Statement .unknown1010001 := encodeUnknown_row _
theorem EncodeSelectsRow.unknown1010010 :
    EncodeSelectsRow.Statement .unknown1010010 := encodeUnknown_row _
theorem EncodeSelectsRow.unknown1010011 :
    EncodeSelectsRow.Statement .unknown1010011 := encodeUnknown_row _
theorem EncodeSelectsRow.unknown1010100 :
    EncodeSelectsRow.Statement .unknown1010100 := encodeUnknown_row _
theorem EncodeSelectsRow.unknown1010101 :
    EncodeSelectsRow.Statement .unknown1010101 := encodeUnknown_row _
theorem EncodeSelectsRow.unknown1010110 :
    EncodeSelectsRow.Statement .unknown1010110 := encodeUnknown_row _
theorem EncodeSelectsRow.unknown1010111 :
    EncodeSelectsRow.Statement .unknown1010111 := encodeUnknown_row _
theorem EncodeSelectsRow.unknown1011000 :
    EncodeSelectsRow.Statement .unknown1011000 := encodeUnknown_row _
theorem EncodeSelectsRow.unknown1011001 :
    EncodeSelectsRow.Statement .unknown1011001 := encodeUnknown_row _
theorem EncodeSelectsRow.unknown1011010 :
    EncodeSelectsRow.Statement .unknown1011010 := encodeUnknown_row _
theorem EncodeSelectsRow.unknown1011011 :
    EncodeSelectsRow.Statement .unknown1011011 := encodeUnknown_row _
theorem EncodeSelectsRow.unknown1011100 :
    EncodeSelectsRow.Statement .unknown1011100 := encodeUnknown_row _
theorem EncodeSelectsRow.unknown1011101 :
    EncodeSelectsRow.Statement .unknown1011101 := encodeUnknown_row _
theorem EncodeSelectsRow.unknown1011110 :
    EncodeSelectsRow.Statement .unknown1011110 := encodeUnknown_row _
theorem EncodeSelectsRow.unknown1011111 :
    EncodeSelectsRow.Statement .unknown1011111 := encodeUnknown_row _
theorem EncodeSelectsRow.unknown1100000 :
    EncodeSelectsRow.Statement .unknown1100000 := encodeUnknown_row _
theorem EncodeSelectsRow.unknown1100001 :
    EncodeSelectsRow.Statement .unknown1100001 := encodeUnknown_row _
theorem EncodeSelectsRow.unknown1100010 :
    EncodeSelectsRow.Statement .unknown1100010 := encodeUnknown_row _
theorem EncodeSelectsRow.unknown1100100 :
    EncodeSelectsRow.Statement .unknown1100100 := encodeUnknown_row _
theorem EncodeSelectsRow.unknown1100101 :
    EncodeSelectsRow.Statement .unknown1100101 := encodeUnknown_row _
theorem EncodeSelectsRow.unknown1100110 :
    EncodeSelectsRow.Statement .unknown1100110 := encodeUnknown_row _
theorem EncodeSelectsRow.unknown1101000 :
    EncodeSelectsRow.Statement .unknown1101000 := encodeUnknown_row _
theorem EncodeSelectsRow.unknown1101001 :
    EncodeSelectsRow.Statement .unknown1101001 := encodeUnknown_row _
theorem EncodeSelectsRow.unknown1101010 :
    EncodeSelectsRow.Statement .unknown1101010 := encodeUnknown_row _
theorem EncodeSelectsRow.unknown1101011 :
    EncodeSelectsRow.Statement .unknown1101011 := encodeUnknown_row _
theorem EncodeSelectsRow.unknown1101100 :
    EncodeSelectsRow.Statement .unknown1101100 := encodeUnknown_row _
theorem EncodeSelectsRow.unknown1101101 :
    EncodeSelectsRow.Statement .unknown1101101 := encodeUnknown_row _
theorem EncodeSelectsRow.unknown1101110 :
    EncodeSelectsRow.Statement .unknown1101110 := encodeUnknown_row _
theorem EncodeSelectsRow.unknown1101111 :
    EncodeSelectsRow.Statement .unknown1101111 := encodeUnknown_row _
theorem EncodeSelectsRow.unknown1110000 :
    EncodeSelectsRow.Statement .unknown1110000 := encodeUnknown_row _
theorem EncodeSelectsRow.unknown1110001 :
    EncodeSelectsRow.Statement .unknown1110001 := encodeUnknown_row _
theorem EncodeSelectsRow.unknown1110010 :
    EncodeSelectsRow.Statement .unknown1110010 := encodeUnknown_row _
theorem EncodeSelectsRow.unknown1110011 :
    EncodeSelectsRow.Statement .unknown1110011 := encodeUnknown_row _
theorem EncodeSelectsRow.unknown1110100 :
    EncodeSelectsRow.Statement .unknown1110100 := encodeUnknown_row _
theorem EncodeSelectsRow.unknown1110101 :
    EncodeSelectsRow.Statement .unknown1110101 := encodeUnknown_row _
theorem EncodeSelectsRow.unknown1110110 :
    EncodeSelectsRow.Statement .unknown1110110 := encodeUnknown_row _
theorem EncodeSelectsRow.unknown1110111 :
    EncodeSelectsRow.Statement .unknown1110111 := encodeUnknown_row _
theorem EncodeSelectsRow.unknown1111000 :
    EncodeSelectsRow.Statement .unknown1111000 := encodeUnknown_row _
theorem EncodeSelectsRow.unknown1111001 :
    EncodeSelectsRow.Statement .unknown1111001 := encodeUnknown_row _
theorem EncodeSelectsRow.unknown1111010 :
    EncodeSelectsRow.Statement .unknown1111010 := encodeUnknown_row _
theorem EncodeSelectsRow.unknown1111011 :
    EncodeSelectsRow.Statement .unknown1111011 := encodeUnknown_row _
theorem EncodeSelectsRow.unknown1111100 :
    EncodeSelectsRow.Statement .unknown1111100 := encodeUnknown_row _
theorem EncodeSelectsRow.unknown1111101 :
    EncodeSelectsRow.Statement .unknown1111101 := encodeUnknown_row _
theorem EncodeSelectsRow.unknown1111110 :
    EncodeSelectsRow.Statement .unknown1111110 := encodeUnknown_row _
theorem EncodeSelectsRow.unknown1111111 :
    EncodeSelectsRow.Statement .unknown1111111 := encodeUnknown_row _

end Sys2Proof.Laws
end

