-- ==== Sys2Proof/Tests/Slice0.lean ====
section
/-! SUPPORT. Tests of single cycles and of single words, with the results of 95_test_vectors.md and of the examples of
the family files, and one witness per statement that has hypotheses. No expected value here is the model's own. -/

namespace Sys2Proof.Tests

open Sys2Proof.Machine Sys2Proof.Safety

/-! ### Small states and what is observed of a cycle -/

/-- The reset state with a pc, some registers, a data memory and a word at the pc of instruction memory. -/
def start (pc : Word) (xs : List (RegIdx × Word)) (dmem : Memory) (w : Word) : State :=
  placeWord { xs.foldl (fun s p => s.setX p.1 p.2) State.reset with pc := pc, dmem := dmem } w

/-- The same with the switch ADD_USES_BIT30 on. -/
def startSwitched (pc : Word) (xs : List (RegIdx × Word)) (w : Word) : State :=
  { start pc xs [] w with config := { imemSize := 4096, dmemSize := 4096, addUsesBit30 := true } }

/-- The next state of a cycle, if it has one. -/
def nextOf (o : Outcome) : Option State :=
  match o with
  | .next t => some t
  | .fault _ => none
  | .refused _ => none

/-- The fault of a cycle, if it has one. -/
def faultOf (o : Outcome) : Option Fault :=
  match o with
  | .next _ => none
  | .fault f => some f
  | .refused _ => none

/-- Some registers and the pc after one cycle. -/
def regsAfter (s : State) (is : List RegIdx) : Option (List Word × Word) :=
  (nextOf (step s)).map fun t => (is.map t.x, t.pc)

/-- All of data memory and the pc after one cycle. -/
def memAfter (s : State) : Option (Memory × Word) := (nextOf (step s)).map fun t => (t.dmem, t.pc)

/-- Whether a cycle changes nothing but the pc, and the pc it gives. -/
def onlyPc (s : State) : Option (Bool × Word) :=
  (nextOf (step s)).map fun t => (decide (t = { s with pc := t.pc }), t.pc)

/-- The word 0x12345678 at 0x100 (95_test_vectors.md section 2.6). -/
def wordAt100 : Memory := [(0x100, 0x78#8), (0x101, 0x56#8), (0x102, 0x34#8), (0x103, 0x12#8)]

theorem wordAt100_wf : wordAt100.wf = true := by decide


/-! ### Well-formedness: each check refuses an ill-formed term -/

-- "immediate bit 0 is forced to 0 (branch targets are even)" (R59, R74): an odd offset is no branch.
theorem test_wf_beqEncoding :
    (Instr.beqEncoding 1#5 2#5 3#13).wf = false ∧ (Instr.beqEncoding 1#5 2#5 2#13).wf = true := by decide
theorem test_wf_bne : (Instr.bne 1#5 2#5 3#13).wf = false ∧ (Instr.bne 1#5 2#5 2#13).wf = true := by decide
theorem test_wf_branchFunct3_010 :
    (Instr.branchFunct3_010 1#5 2#5 3#13).wf = false ∧ (Instr.branchFunct3_010 1#5 2#5 2#13).wf = true := by decide
theorem test_wf_branchFunct3_011 :
    (Instr.branchFunct3_011 1#5 2#5 3#13).wf = false ∧ (Instr.branchFunct3_011 1#5 2#5 2#13).wf = true := by decide
theorem test_wf_bltEncoding :
    (Instr.bltEncoding 1#5 2#5 3#13).wf = false ∧ (Instr.bltEncoding 1#5 2#5 2#13).wf = true := by decide
theorem test_wf_bgeEncoding :
    (Instr.bgeEncoding 1#5 2#5 3#13).wf = false ∧ (Instr.bgeEncoding 1#5 2#5 2#13).wf = true := by decide
theorem test_wf_bltuEncoding :
    (Instr.bltuEncoding 1#5 2#5 3#13).wf = false ∧ (Instr.bltuEncoding 1#5 2#5 2#13).wf = true := by decide
theorem test_wf_bgeuEncoding :
    (Instr.bgeuEncoding 1#5 2#5 3#13).wf = false ∧ (Instr.bgeuEncoding 1#5 2#5 2#13).wf = true := by decide
theorem test_wf_others :
    (Instr.addi 31#5 31#5 (-1#12)).wf = true ∧ (Instr.lui 0#5 0xFFFFF#20).wf = true ∧ Instr.unknown1111111.wf = true := by decide
theorem test_config_wf :
    Config.default.wf = true ∧ ({ Config.default with imemSize := 0 } : Config).wf = false ∧
    ({ Config.default with dmemSize := 0 } : Config).wf = false := by decide

/-! ### Decoding: a word of every row, written out field by field from R53 -/

-- R format: funct7, rs2, rs1, funct3, rd, opcode. Bits 31:25 are ignored but for bit 30 of funct3 000 (R52).
theorem test_decode_R :
    decode 0b0000000_00010_00001_000_00011_0110011#32 = .add 3#5 1#5 2#5 ∧
    decode 0b0100000_00010_00001_000_00011_0110011#32 = .sub 3#5 1#5 2#5 ∧
    decode 0b1011111_00010_00001_000_00011_0110011#32 = .add 3#5 1#5 2#5 ∧
    decode 0b0000000_11111_10000_001_01000_0110011#32 = .sllEncoding 8#5 16#5 31#5 ∧
    decode 0b0000000_00010_00001_010_00011_0110011#32 = .sltEncoding 3#5 1#5 2#5 ∧
    decode 0b0000000_00010_00001_011_00011_0110011#32 = .sltuEncoding 3#5 1#5 2#5 ∧
    decode 0b0000000_00010_00001_100_00011_0110011#32 = .xorEncoding 3#5 1#5 2#5 ∧
    decode 0b0100000_00010_00001_101_00011_0110011#32 = .sra 3#5 1#5 2#5 ∧
    decode 0b0000000_00010_00001_101_00011_0110011#32 = .sra 3#5 1#5 2#5 ∧
    decode 0b0000000_00010_00001_110_00011_0110011#32 = .or 3#5 1#5 2#5 ∧
    decode 0b1111111_00010_00001_111_00011_0110011#32 = .and 3#5 1#5 2#5 := by decide
-- I format: imm[11:0], rs1, funct3, rd, opcode.
theorem test_decode_I :
    decode 0b111111111110_00001_000_00011_0010011#32 = .addi 3#5 1#5 (-2#12) ∧
    decode 0b111111111110_00001_001_00011_0010011#32 = .slliEncoding 3#5 1#5 (-2#12) ∧
    decode 0b111111111110_00001_010_00011_0010011#32 = .sltiEncoding 3#5 1#5 (-2#12) ∧
    decode 0b111111111110_00001_011_00011_0010011#32 = .sltiu 3#5 1#5 (-2#12) ∧
    decode 0b111111111110_00001_100_00011_0010011#32 = .xoriEncoding 3#5 1#5 (-2#12) ∧
    decode 0b111111111110_00001_101_00011_0010011#32 = .srliSraiEncoding 3#5 1#5 (-2#12) ∧
    decode 0b111111111110_00001_110_00011_0010011#32 = .ori 3#5 1#5 (-2#12) ∧
    decode 0b111111111110_00001_111_00011_0010011#32 = .andiEncoding 3#5 1#5 (-2#12) := by decide
theorem test_decode_load :
    decode 0b000000000101_00001_000_00011_0000011#32 = .lbEncoding 3#5 1#5 5#12 ∧
    decode 0b000000000101_00001_001_00011_0000011#32 = .lhEncoding 3#5 1#5 5#12 ∧
    decode 0b000000000101_00001_010_00011_0000011#32 = .lw 3#5 1#5 5#12 ∧
    decode 0b000000000101_00001_011_00011_0000011#32 = .loadFunct3_011 3#5 1#5 5#12 ∧
    decode 0b000000000101_00001_100_00011_0000011#32 = .lbu 3#5 1#5 5#12 ∧
    decode 0b000000000101_00001_101_00011_0000011#32 = .lhuEncoding 3#5 1#5 5#12 ∧
    decode 0b000000000101_00001_110_00011_0000011#32 = .loadFunct3_110 3#5 1#5 5#12 ∧
    decode 0b000000000101_00001_111_00011_0000011#32 = .loadFunct3_111 3#5 1#5 5#12 := by decide
-- S format: imm[11:5], rs2, rs1, funct3, imm[4:0], opcode. Here imm is -4, as in SW x1,-4(x2) = 0xFE112E23 (R58).
theorem test_decode_store :
    decode 0b1111111_00001_00010_000_11100_0100011#32 = .sbEncoding 1#5 2#5 (-4#12) ∧
    decode 0b1111111_00001_00010_001_11100_0100011#32 = .sh 1#5 2#5 (-4#12) ∧
    decode 0b1111111_00001_00010_010_11100_0100011#32 = .sw 1#5 2#5 (-4#12) ∧
    decode 0b1111111_00001_00010_011_11100_0100011#32 = .storeFunct3_011 1#5 2#5 (-4#12) ∧
    decode 0b1111111_00001_00010_100_11100_0100011#32 = .storeFunct3_100 1#5 2#5 (-4#12) ∧
    decode 0b1111111_00001_00010_101_11100_0100011#32 = .storeFunct3_101 1#5 2#5 (-4#12) ∧
    decode 0b1111111_00001_00010_110_11100_0100011#32 = .storeFunct3_110 1#5 2#5 (-4#12) ∧
    decode 0b1111111_00001_00010_111_11100_0100011#32 = .storeFunct3_111 1#5 2#5 (-4#12) := by decide
-- B format: imm[12], imm[10:5], rs2, rs1, funct3, imm[4:1], imm[11], opcode. Here the offset is -8 (R59).
theorem test_decode_branch :
    decode 0b1_111111_00000_00001_000_1100_1_1100011#32 = .beqEncoding 1#5 0#5 (-8#13) ∧
    decode 0b1_111111_00000_00001_001_1100_1_1100011#32 = .bne 1#5 0#5 (-8#13) ∧
    decode 0b1_111111_00000_00001_010_1100_1_1100011#32 = .branchFunct3_010 1#5 0#5 (-8#13) ∧
    decode 0b1_111111_00000_00001_011_1100_1_1100011#32 = .branchFunct3_011 1#5 0#5 (-8#13) ∧
    decode 0b1_111111_00000_00001_100_1100_1_1100011#32 = .bltEncoding 1#5 0#5 (-8#13) ∧
    decode 0b1_111111_00000_00001_101_1100_1_1100011#32 = .bgeEncoding 1#5 0#5 (-8#13) ∧
    decode 0b1_111111_00000_00001_110_1100_1_1100011#32 = .bltuEncoding 1#5 0#5 (-8#13) ∧
    decode 0b1_111111_00000_00001_111_1100_1_1100011#32 = .bgeuEncoding 1#5 0#5 (-8#13) := by decide
-- J format (the I layout, any funct3) and U format: imm[31:12], rd, opcode.
theorem test_decode_JU :
    decode 0b000000000100_00101_000_00001_1100111#32 = .jalr 1#5 5#5 4#12 ∧
    decode 0b000000000100_00101_111_00001_1100111#32 = .jalr 1#5 5#5 4#12 ∧
    decode 0b10101011110011011110_00001_0110111#32 = .lui 1#5 0xABCDE#20 := by decide
-- B offsets whose bits 11, 5 and 12 stand apart: BNE x1,x2,2048; BNE x1,x2,32; BNE x1,x2,-4096.
theorem test_decode_offsets :
    decode 0b0_000000_00010_00001_001_0000_1_1100011#32 = .bne 1#5 2#5 2048#13 ∧
    decode 0b0_000001_00010_00001_001_0000_0_1100011#32 = .bne 1#5 2#5 32#13 ∧
    decode 0x80209063#32 = .bne 1#5 2#5 (-4096#13) := by decide
-- Each Unknown opcode, under other bits that are ignored (R55, R71).
def unknownRows0 : List (Word × Instr) := [
  (0b1010_0110_0101_1100_0011_11110_0000000#32, .unknown0000000), (0b1010_0110_0101_1100_0011_11110_0000001#32, .unknown0000001),
  (0b1010_0110_0101_1100_0011_11110_0000010#32, .unknown0000010), (0b1010_0110_0101_1100_0011_11110_0000100#32, .unknown0000100),
  (0b1010_0110_0101_1100_0011_11110_0000101#32, .unknown0000101), (0b1010_0110_0101_1100_0011_11110_0000110#32, .unknown0000110),
  (0b1010_0110_0101_1100_0011_11110_0000111#32, .unknown0000111), (0b1010_0110_0101_1100_0011_11110_0001000#32, .unknown0001000),
  (0b1010_0110_0101_1100_0011_11110_0001001#32, .unknown0001001), (0b1010_0110_0101_1100_0011_11110_0001010#32, .unknown0001010),
  (0b1010_0110_0101_1100_0011_11110_0001011#32, .unknown0001011), (0b1010_0110_0101_1100_0011_11110_0001100#32, .unknown0001100),
  (0b1010_0110_0101_1100_0011_11110_0001101#32, .unknown0001101), (0b1010_0110_0101_1100_0011_11110_0001110#32, .unknown0001110),
  (0b1010_0110_0101_1100_0011_11110_0001111#32, .unknown0001111), (0b1010_0110_0101_1100_0011_11110_0010000#32, .unknown0010000)]

def unknownRows1 : List (Word × Instr) := [
  (0b1010_0110_0101_1100_0011_11110_0010001#32, .unknown0010001), (0b1010_0110_0101_1100_0011_11110_0010010#32, .unknown0010010),
  (0b1010_0110_0101_1100_0011_11110_0010100#32, .unknown0010100), (0b1010_0110_0101_1100_0011_11110_0010101#32, .unknown0010101),
  (0b1010_0110_0101_1100_0011_11110_0010110#32, .unknown0010110), (0b1010_0110_0101_1100_0011_11110_0010111#32, .unknown0010111),
  (0b1010_0110_0101_1100_0011_11110_0011000#32, .unknown0011000), (0b1010_0110_0101_1100_0011_11110_0011001#32, .unknown0011001),
  (0b1010_0110_0101_1100_0011_11110_0011010#32, .unknown0011010), (0b1010_0110_0101_1100_0011_11110_0011011#32, .unknown0011011),
  (0b1010_0110_0101_1100_0011_11110_0011100#32, .unknown0011100), (0b1010_0110_0101_1100_0011_11110_0011101#32, .unknown0011101),
  (0b1010_0110_0101_1100_0011_11110_0011110#32, .unknown0011110), (0b1010_0110_0101_1100_0011_11110_0011111#32, .unknown0011111),
  (0b1010_0110_0101_1100_0011_11110_0100000#32, .unknown0100000), (0b1010_0110_0101_1100_0011_11110_0100001#32, .unknown0100001)]

def unknownRows2 : List (Word × Instr) := [
  (0b1010_0110_0101_1100_0011_11110_0100010#32, .unknown0100010), (0b1010_0110_0101_1100_0011_11110_0100100#32, .unknown0100100),
  (0b1010_0110_0101_1100_0011_11110_0100101#32, .unknown0100101), (0b1010_0110_0101_1100_0011_11110_0100110#32, .unknown0100110),
  (0b1010_0110_0101_1100_0011_11110_0100111#32, .unknown0100111), (0b1010_0110_0101_1100_0011_11110_0101000#32, .unknown0101000),
  (0b1010_0110_0101_1100_0011_11110_0101001#32, .unknown0101001), (0b1010_0110_0101_1100_0011_11110_0101010#32, .unknown0101010),
  (0b1010_0110_0101_1100_0011_11110_0101011#32, .unknown0101011), (0b1010_0110_0101_1100_0011_11110_0101100#32, .unknown0101100),
  (0b1010_0110_0101_1100_0011_11110_0101101#32, .unknown0101101), (0b1010_0110_0101_1100_0011_11110_0101110#32, .unknown0101110),
  (0b1010_0110_0101_1100_0011_11110_0101111#32, .unknown0101111), (0b1010_0110_0101_1100_0011_11110_0110000#32, .unknown0110000),
  (0b1010_0110_0101_1100_0011_11110_0110001#32, .unknown0110001), (0b1010_0110_0101_1100_0011_11110_0110010#32, .unknown0110010)]

def unknownRows3 : List (Word × Instr) := [
  (0b1010_0110_0101_1100_0011_11110_0110100#32, .unknown0110100), (0b1010_0110_0101_1100_0011_11110_0110101#32, .unknown0110101),
  (0b1010_0110_0101_1100_0011_11110_0110110#32, .unknown0110110), (0b1010_0110_0101_1100_0011_11110_0111000#32, .unknown0111000),
  (0b1010_0110_0101_1100_0011_11110_0111001#32, .unknown0111001), (0b1010_0110_0101_1100_0011_11110_0111010#32, .unknown0111010),
  (0b1010_0110_0101_1100_0011_11110_0111011#32, .unknown0111011), (0b1010_0110_0101_1100_0011_11110_0111100#32, .unknown0111100),
  (0b1010_0110_0101_1100_0011_11110_0111101#32, .unknown0111101), (0b1010_0110_0101_1100_0011_11110_0111110#32, .unknown0111110),
  (0b1010_0110_0101_1100_0011_11110_0111111#32, .unknown0111111), (0b1010_0110_0101_1100_0011_11110_1000000#32, .unknown1000000),
  (0b1010_0110_0101_1100_0011_11110_1000001#32, .unknown1000001), (0b1010_0110_0101_1100_0011_11110_1000010#32, .unknown1000010),
  (0b1010_0110_0101_1100_0011_11110_1000011#32, .unknown1000011), (0b1010_0110_0101_1100_0011_11110_1000100#32, .unknown1000100)]

def unknownRows4 : List (Word × Instr) := [
  (0b1010_0110_0101_1100_0011_11110_1000101#32, .unknown1000101), (0b1010_0110_0101_1100_0011_11110_1000110#32, .unknown1000110),
  (0b1010_0110_0101_1100_0011_11110_1000111#32, .unknown1000111), (0b1010_0110_0101_1100_0011_11110_1001000#32, .unknown1001000),
  (0b1010_0110_0101_1100_0011_11110_1001001#32, .unknown1001001), (0b1010_0110_0101_1100_0011_11110_1001010#32, .unknown1001010),
  (0b1010_0110_0101_1100_0011_11110_1001011#32, .unknown1001011), (0b1010_0110_0101_1100_0011_11110_1001100#32, .unknown1001100),
  (0b1010_0110_0101_1100_0011_11110_1001101#32, .unknown1001101), (0b1010_0110_0101_1100_0011_11110_1001110#32, .unknown1001110),
  (0b1010_0110_0101_1100_0011_11110_1001111#32, .unknown1001111), (0b1010_0110_0101_1100_0011_11110_1010000#32, .unknown1010000),
  (0b1010_0110_0101_1100_0011_11110_1010001#32, .unknown1010001), (0b1010_0110_0101_1100_0011_11110_1010010#32, .unknown1010010),
  (0b1010_0110_0101_1100_0011_11110_1010011#32, .unknown1010011), (0b1010_0110_0101_1100_0011_11110_1010100#32, .unknown1010100)]

def unknownRows5 : List (Word × Instr) := [
  (0b1010_0110_0101_1100_0011_11110_1010101#32, .unknown1010101), (0b1010_0110_0101_1100_0011_11110_1010110#32, .unknown1010110),
  (0b1010_0110_0101_1100_0011_11110_1010111#32, .unknown1010111), (0b1010_0110_0101_1100_0011_11110_1011000#32, .unknown1011000),
  (0b1010_0110_0101_1100_0011_11110_1011001#32, .unknown1011001), (0b1010_0110_0101_1100_0011_11110_1011010#32, .unknown1011010),
  (0b1010_0110_0101_1100_0011_11110_1011011#32, .unknown1011011), (0b1010_0110_0101_1100_0011_11110_1011100#32, .unknown1011100),
  (0b1010_0110_0101_1100_0011_11110_1011101#32, .unknown1011101), (0b1010_0110_0101_1100_0011_11110_1011110#32, .unknown1011110),
  (0b1010_0110_0101_1100_0011_11110_1011111#32, .unknown1011111), (0b1010_0110_0101_1100_0011_11110_1100000#32, .unknown1100000),
  (0b1010_0110_0101_1100_0011_11110_1100001#32, .unknown1100001), (0b1010_0110_0101_1100_0011_11110_1100010#32, .unknown1100010),
  (0b1010_0110_0101_1100_0011_11110_1100100#32, .unknown1100100), (0b1010_0110_0101_1100_0011_11110_1100101#32, .unknown1100101)]

def unknownRows6 : List (Word × Instr) := [
  (0b1010_0110_0101_1100_0011_11110_1100110#32, .unknown1100110), (0b1010_0110_0101_1100_0011_11110_1101000#32, .unknown1101000),
  (0b1010_0110_0101_1100_0011_11110_1101001#32, .unknown1101001), (0b1010_0110_0101_1100_0011_11110_1101010#32, .unknown1101010),
  (0b1010_0110_0101_1100_0011_11110_1101011#32, .unknown1101011), (0b1010_0110_0101_1100_0011_11110_1101100#32, .unknown1101100),
  (0b1010_0110_0101_1100_0011_11110_1101101#32, .unknown1101101), (0b1010_0110_0101_1100_0011_11110_1101110#32, .unknown1101110),
  (0b1010_0110_0101_1100_0011_11110_1101111#32, .unknown1101111), (0b1010_0110_0101_1100_0011_11110_1110000#32, .unknown1110000),
  (0b1010_0110_0101_1100_0011_11110_1110001#32, .unknown1110001), (0b1010_0110_0101_1100_0011_11110_1110010#32, .unknown1110010),
  (0b1010_0110_0101_1100_0011_11110_1110011#32, .unknown1110011), (0b1010_0110_0101_1100_0011_11110_1110100#32, .unknown1110100),
  (0b1010_0110_0101_1100_0011_11110_1110101#32, .unknown1110101), (0b1010_0110_0101_1100_0011_11110_1110110#32, .unknown1110110)]

def unknownRows7 : List (Word × Instr) := [
  (0b1010_0110_0101_1100_0011_11110_1110111#32, .unknown1110111), (0b1010_0110_0101_1100_0011_11110_1111000#32, .unknown1111000),
  (0b1010_0110_0101_1100_0011_11110_1111001#32, .unknown1111001), (0b1010_0110_0101_1100_0011_11110_1111010#32, .unknown1111010),
  (0b1010_0110_0101_1100_0011_11110_1111011#32, .unknown1111011), (0b1010_0110_0101_1100_0011_11110_1111100#32, .unknown1111100),
  (0b1010_0110_0101_1100_0011_11110_1111101#32, .unknown1111101), (0b1010_0110_0101_1100_0011_11110_1111110#32, .unknown1111110),
  (0b1010_0110_0101_1100_0011_11110_1111111#32, .unknown1111111)]

theorem test_decode_unknown0 : ∀ p ∈ unknownRows0, decode p.1 = p.2 := by decide
theorem test_decode_unknown1 : ∀ p ∈ unknownRows1, decode p.1 = p.2 := by decide
theorem test_decode_unknown2 : ∀ p ∈ unknownRows2, decode p.1 = p.2 := by decide
theorem test_decode_unknown3 : ∀ p ∈ unknownRows3, decode p.1 = p.2 := by decide
theorem test_decode_unknown4 : ∀ p ∈ unknownRows4, decode p.1 = p.2 := by decide
theorem test_decode_unknown5 : ∀ p ∈ unknownRows5, decode p.1 = p.2 := by decide
theorem test_decode_unknown6 : ∀ p ∈ unknownRows6, decode p.1 = p.2 := by decide
theorem test_decode_unknown7 : ∀ p ∈ unknownRows7, decode p.1 = p.2 := by decide
theorem test_decode_bytes :
    (decodeBytes [0x93#8, 0x00#8, 0x50#8, 0x00#8, 0xAA#8]).toOption = some (.addi 1#5 0#5 5#12, [0xAA#8]) ∧
    decodeTableWord 32 0x00500093 = some (.addi 1#5 0#5 5#12) ∧ decodeTableWord 33 0x00500093 = none := by decide

/-! ### The immediate generator (95_test_vectors.md section 2.1) -/

theorem test_immGen :
    Datapath.immGen 0x00500093#32 .I = 0x00000005#32 ∧
    Datapath.immGen 0x80000093#32 .I = 0xFFFFF800#32 ∧
    Datapath.immGen 0xFE112E23#32 .S = 0xFFFFFFFC#32 ∧
    Datapath.immGen 0x7E112FA3#32 .S = 0x000007FF#32 ∧
    Datapath.immGen 0xFE009CE3#32 .B = 0xFFFFFFF8#32 ∧
    Datapath.immGen 0x7E209FE3#32 .B = 0x00000FFE#32 ∧
    Datapath.immGen 0x80209063#32 .B = 0xFFFFF000#32 ∧
    Datapath.immGen 0xFFFFFFE3#32 .B = 0xFFFFFFFE#32 ∧
    Datapath.immGen 0xABCDE0B7#32 .U = 0xABCDE000#32 ∧
    Datapath.immGen 0xFFF280E7#32 .J = 0xFFFFFFFF#32 ∧
    Datapath.immGen 0x002081B3#32 .R = 0x00000000#32 ∧
    Datapath.immGen 0xFFFFFFFF#32 .Unknown = 0x00000000#32 := by decide

/-! ### The Controller (R62, R63, R64) and the ALU Control (95_test_vectors.md section 1.3) -/

/-- The nine signals of an opcode in the order of the table of R62. -/
def signals (op : BitVec 7) : List Bool × BitVec 2 :=
  let c := Datapath.control op
  ([c.jalr, c.lui, c.branch, c.memRead, c.memToReg, c.memWrite, c.aluSrc, c.regWrite], c.aluOp)

theorem test_controller :
    signals 0b0110011#7 = ([false, false, false, false, false, false, false, true], 0b10#2) ∧
    signals 0b0010011#7 = ([false, false, false, false, false, false, true, true], 0b11#2) ∧
    signals 0b0000011#7 = ([false, false, false, true, true, false, true, true], 0b00#2) ∧
    signals 0b0100011#7 = ([false, false, false, false, false, true, true, false], 0b00#2) ∧
    signals 0b1100011#7 = ([false, false, true, false, false, false, false, false], 0b01#2) ∧
    signals 0b1100111#7 = ([true, false, false, false, false, false, true, true], 0b00#2) ∧
    signals 0b0110111#7 = ([false, true, false, false, false, false, true, true], 0b00#2) ∧
    signals 0b1101111#7 = ([false, false, false, false, false, false, false, false], 0b00#2) := by decide
theorem test_controller_consequences :
    ∀ op : BitVec 7,
    (Datapath.control op).memToReg = (Datapath.control op).memRead ∧
    ((Datapath.control op).regWrite = true ↔ op ∈ [0b0110011#7, 0b0010011#7, 0b0000011#7, 0b1100111#7, 0b0110111#7]) := fun op => by
  refine forall_opcode (P := fun op => (Datapath.control op).memToReg = (Datapath.control op).memRead ∧
    ((Datapath.control op).regWrite = true ↔ op ∈ [0b0110011#7, 0b0010011#7, 0b0000011#7, 0b1100111#7, 0b0110111#7]))
    (fun n hn => ?_) op
  interval_cases n <;> decide
theorem test_aluControl :
    [0b000#3, 0b001#3, 0b010#3, 0b011#3, 0b100#3, 0b101#3, 0b110#3, 0b111#3].map (Datapath.aluControl false 0b10#2 · true) =
      [.Sub, .Noop, .Noop, .Noop, .Noop, .Sra, .Noop, .And] ∧
    [0b000#3, 0b001#3, 0b010#3, 0b011#3, 0b100#3, 0b101#3, 0b110#3, 0b111#3].map (Datapath.aluControl false 0b11#2 · true) =
      [.Add, .Noop, .Noop, .Sltu, .Noop, .Noop, .Or, .Noop] ∧
    Datapath.aluControl false 0b00#2 0b111#3 true = .Add ∧ Datapath.aluControl false 0b01#2 0b111#3 true = .Sub ∧
    Datapath.aluControl false 0b10#2 0b000#3 false = .Sub ∧ Datapath.aluControl true 0b10#2 0b000#3 false = .Add ∧
    Datapath.aluControl true 0b10#2 0b000#3 true = .Sub := by decide

/-! ### The ALU (95_test_vectors.md section 2.3) -/

theorem test_alu :
    Datapath.alu 0xFFFFFFFF#32 0x00000001#32 .Add false = (0x00000000#32, true) ∧
    Datapath.alu 0x00000000#32 0x00000001#32 .Sub false = (0xFFFFFFFF#32, false) ∧
    Datapath.alu 0xF0F0F0F0#32 0x0FF00FF0#32 .And false = (0x00F000F0#32, false) ∧
    Datapath.alu 0xF0F0F0F0#32 0x0FF00FF0#32 .Or false = (0xFFF0FFF0#32, false) ∧
    Datapath.alu 0x80000000#32 0x0000001F#32 .Sra false = (0xFFFFFFFF#32, false) ∧
    Datapath.alu 0x80000000#32 0x00000020#32 .Sra false = (0x80000000#32, false) ∧
    Datapath.alu 0x7FFFFFFF#32 0x00000021#32 .Sra false = (0x3FFFFFFF#32, false) ∧
    Datapath.alu 0xFFFFFFFF#32 0x00000001#32 .Sltu false = (0x00000000#32, true) ∧
    Datapath.alu 0x00000001#32 0xFFFFFFFF#32 .Sltu false = (0x00000001#32, false) ∧
    Datapath.alu 0x00001234#32 0x00005678#32 .Noop false = (0x00000000#32, true) ∧
    Datapath.alu 0x11111111#32 0xABCDE000#32 .Sra true = (0xABCDE000#32, false) := by decide

/-! ### Register-register (95_test_vectors.md section 2.4) -/

theorem test_add :
    regsAfter (start 0#32 [(1#5, 7#32), (2#5, 3#32)] [] 0x002081B3#32) [3#5, 1#5, 2#5] = some ([4#32, 7#32, 3#32], 4#32) := by decide
theorem test_add_switched :
    regsAfter (startSwitched 0#32 [(1#5, 7#32), (2#5, 3#32)] 0x002081B3#32) [3#5] = some ([0xA#32], 4#32) := by decide
theorem test_sub :
    regsAfter (start 0#32 [(1#5, 3#32), (2#5, 7#32)] [] 0x402081B3#32) [3#5] = some ([0xFFFFFFFC#32], 4#32) := by decide
theorem test_sub_switched :
    regsAfter (startSwitched 0#32 [(1#5, 0x80000000#32), (2#5, 1#32)] 0x402081B3#32) [3#5] = some ([0x7FFFFFFF#32], 4#32) := by decide
theorem test_and :
    regsAfter (start 0#32 [(1#5, 0xF0F0F0F0#32), (2#5, 0x0FF00FF0#32)] [] 0x0020F1B3#32) [3#5] = some ([0x00F000F0#32], 4#32) := by decide
theorem test_or :
    regsAfter (start 0#32 [(1#5, 0xF0F0F0F0#32), (2#5, 0x0FF00FF0#32), (3#5, 0x55#32)] [] 0x0020E1B3#32) [3#5] = some ([0#32], 4#32) := by decide
theorem test_sra :
    regsAfter (start 0#32 [(1#5, 0x80000010#32), (2#5, 0x24#32)] [] 0x4020D1B3#32) [3#5] = some ([0xF8000001#32], 4#32) := by decide
theorem test_sra_srlEncoding :
    regsAfter (start 0#32 [(1#5, 0x80000010#32), (2#5, 4#32)] [] 0x0020D1B3#32) [3#5] = some ([0xF8000001#32], 4#32) := by decide
theorem test_sllEncoding :
    regsAfter (start 0#32 [(1#5, 7#32), (2#5, 3#32), (3#5, 9#32)] [] 0x002091B3#32) [3#5] = some ([0#32], 4#32) := by decide
theorem test_sltEncoding :
    regsAfter (start 0#32 [(1#5, 1#32), (2#5, 2#32), (3#5, 9#32)] [] 0x0020A1B3#32) [3#5] = some ([0#32], 4#32) := by decide
theorem test_sltuEncoding :
    regsAfter (start 0#32 [(1#5, 1#32), (2#5, 2#32), (3#5, 9#32)] [] 0x0020B1B3#32) [3#5] = some ([0#32], 4#32) := by decide
theorem test_xorEncoding :
    regsAfter (start 0#32 [(1#5, 6#32), (2#5, 3#32), (3#5, 9#32)] [] 0x0020C1B3#32) [3#5] = some ([0#32], 4#32) := by decide

/-! ### Register-immediate (95_test_vectors.md section 2.5) -/

theorem test_addi : regsAfter (start 0#32 [] [] 0xFFF08093#32) [1#5] = some ([0xFFFFFFFF#32], 4#32) := by decide
theorem test_addi_wraps :
    regsAfter (start 0#32 [(1#5, 0x7FFFFFFF#32)] [] 0x00108093#32) [1#5] = some ([0x80000000#32], 4#32) := by decide
theorem test_ori :
    regsAfter (start 0#32 [(1#5, 7#32)] [] 0x8000E193#32) [3#5] = some ([0xFFFFF807#32], 4#32) := by decide
theorem test_sltiu :
    regsAfter (start 0#32 [(1#5, 0x7FFFFFFF#32)] [] 0xFFF0B193#32) [3#5] = some ([1#32], 4#32) := by decide
theorem test_sltiu_false :
    regsAfter (start 0#32 [(1#5, 0xFFFFFFFF#32)] [] 0xFFF0B193#32) [3#5] = some ([0#32], 4#32) := by decide
theorem test_andiEncoding :
    regsAfter (start 0#32 [(1#5, 0x1234#32), (3#5, 9#32)] [] 0x0FF0F193#32) [3#5] = some ([0#32], 4#32) := by decide
theorem test_slliEncoding :
    regsAfter (start 0#32 [(1#5, 7#32), (3#5, 9#32)] [] 0x00209193#32) [3#5] = some ([0#32], 4#32) := by decide
theorem test_sltiEncoding :
    regsAfter (start 0#32 [(1#5, 0#32), (3#5, 9#32)] [] 0x0010A193#32) [3#5] = some ([0#32], 4#32) := by decide
theorem test_xoriEncoding :
    regsAfter (start 0#32 [(1#5, 5#32), (3#5, 9#32)] [] 0xFFF0C193#32) [3#5] = some ([0#32], 4#32) := by decide
theorem test_srliSraiEncoding :
    regsAfter (start 0#32 [(1#5, 0x80000000#32), (3#5, 9#32)] [] 0x4040D193#32) [3#5] = some ([0#32], 4#32) := by decide

/-! ### Loads (95_test_vectors.md section 2.6; the last two words are of R100, written out) -/

theorem test_lw_misaligned :
    regsAfter (start 0#32 [(3#5, 0x100#32)] wordAt100 0x0011A203#32) [4#5, 3#5] = some ([0x00123456#32, 0x100#32], 4#32) := by decide
theorem test_lw_lastWord :
    regsAfter (start 0#32 [(3#5, 0xFFC#32)] [(0xFFC, 0x01#8), (0xFFF, 0x80#8)] 0x0001A203#32) [4#5] = some ([0x80000001#32], 4#32) := by decide
theorem test_lbu :
    regsAfter (start 0#32 [(3#5, 0x100#32)] wordAt100 0x0011C283#32) [5#5] = some ([0x56#32], 4#32) := by decide
theorem test_lbu_zeroExtends :
    regsAfter (start 0#32 [(3#5, 0x100#32)] [(0x100, 0x80#8)] 0x0001C283#32) [5#5] = some ([0x80#32], 4#32) := by decide
theorem test_lbEncoding :
    regsAfter (start 0#32 [(3#5, 0x100#32)] wordAt100 0x00318283#32) [5#5] = some ([0x12#32], 4#32) := by decide
theorem test_lhEncoding :
    regsAfter (start 0#32 [(3#5, 0x100#32)] wordAt100 0x00019283#32) [5#5] = some ([0x78#32], 4#32) := by decide
theorem test_lhuEncoding :
    regsAfter (start 0#32 [(3#5, 0x100#32)] wordAt100 0x0001D283#32) [5#5] = some ([0x78#32], 4#32) := by decide
theorem test_loadFunct3_011 :
    regsAfter (start 0#32 [(3#5, 0x100#32)] wordAt100 0b000000000001_00011_011_00101_0000011#32) [5#5] = some ([0x56#32], 4#32) := by decide
theorem test_loadFunct3_110 :
    regsAfter (start 0#32 [(3#5, 0x100#32)] wordAt100 0b000000000001_00011_110_00101_0000011#32) [5#5] = some ([0x56#32], 4#32) := by decide
theorem test_loadFunct3_111 :
    regsAfter (start 0#32 [(3#5, 0x100#32)] wordAt100 0b000000000001_00011_111_00101_0000011#32) [5#5] = some ([0x56#32], 4#32) := by decide
theorem test_load_faults :
    faultOf (step (start 0#32 [(3#5, 0xFFD#32)] [] 0x0001A203#32)) = some (.dataOutOfRange 0xFFD#32 4) ∧
    faultOf (step (start 0#32 [(3#5, 0xFFFFFFFC#32)] [] 0x0001A203#32)) = some (.dataOutOfRange 0xFFFFFFFC#32 4) ∧
    faultOf (step (start 0#32 [(3#5, 0x1000#32)] [] 0x0001A003#32)) = some (.dataOutOfRange 0x1000#32 4) ∧
    faultOf (step (start 0#32 [(3#5, 0x1000#32)] [] 0x0001C203#32)) = some (.dataOutOfRange 0x1000#32 1) := by decide

/-! ### Stores (95_test_vectors.md section 2.7; the later words are of R103, written out) -/

theorem test_sw_misaligned :
    memAfter (start 0#32 [(2#5, 0x12345678#32), (3#5, 0x100#32)] [] 0x0021A1A3#32) = some ([(0x103, 0x78#8), (0x104, 0x56#8), (0x105, 0x34#8), (0x106, 0x12#8)], 4#32) := by decide
theorem test_sw_lastWord :
    memAfter (start 0#32 [(2#5, 0xAABBCCDD#32), (3#5, 0xFFC#32)] [] 0x0021A023#32) = some ([(0xFFC, 0xDD#8), (0xFFD, 0xCC#8), (0xFFE, 0xBB#8), (0xFFF, 0xAA#8)], 4#32) := by decide
theorem test_sh :
    memAfter (start 0#32 [(2#5, 0x12345678#32), (3#5, 0x100#32)] [] 0x00219223#32) = some ([(0x104, 0x78#8), (0x105, 0x56#8)], 4#32) := by decide
theorem test_sh_zero :
    memAfter (start 0#32 [(3#5, 0x100#32)] wordAt100 0x00019023#32) = some ([(0x102, 0x34#8), (0x103, 0x12#8)], 4#32) := by decide
theorem test_sbEncoding :
    memAfter (start 0#32 [(2#5, 0x12345678#32), (3#5, 0x100#32)] [] 0x00218423#32) = some ([(0x108, 0x78#8), (0x109, 0x56#8)], 4#32) := by decide
theorem test_storeFunct3_011 :
    memAfter (start 0#32 [(2#5, 0x12345678#32), (3#5, 0x100#32)] [] 0b0000000_00010_00011_011_01000_0100011#32) = some ([(0x108, 0x78#8), (0x109, 0x56#8)], 4#32) := by decide
theorem test_storeFunct3_100 :
    memAfter (start 0#32 [(2#5, 0x12345678#32), (3#5, 0x100#32)] [] 0b0000000_00010_00011_100_01000_0100011#32) = some ([(0x108, 0x78#8), (0x109, 0x56#8)], 4#32) := by decide
theorem test_storeFunct3_101 :
    memAfter (start 0#32 [(2#5, 0x12345678#32), (3#5, 0x100#32)] [] 0b0000000_00010_00011_101_01000_0100011#32) = some ([(0x108, 0x78#8), (0x109, 0x56#8)], 4#32) := by decide
theorem test_storeFunct3_110 :
    memAfter (start 0#32 [(2#5, 0x12345678#32), (3#5, 0x100#32)] [] 0b0000000_00010_00011_110_01000_0100011#32) = some ([(0x108, 0x78#8), (0x109, 0x56#8)], 4#32) := by decide
theorem test_storeFunct3_111 :
    memAfter (start 0#32 [(2#5, 0x12345678#32), (3#5, 0x100#32)] [] 0b0000000_00010_00011_111_01000_0100011#32) = some ([(0x108, 0x78#8), (0x109, 0x56#8)], 4#32) := by decide
theorem test_store_faults :
    faultOf (step (start 0#32 [(2#5, 0xFFFF#32), (3#5, 0xFFF#32)] [] 0x00219023#32)) = some (.dataOutOfRange 0xFFF#32 2) ∧
    faultOf (step (start 4#32 [(1#5, 0x1000#32)] [] 0x0000A023#32)) = some (.dataOutOfRange 0x1000#32 4) := by decide

/-! ### Control transfer (95_test_vectors.md sections 2.8 and 2.9) -/

theorem test_bne_taken : onlyPc (start 0x10#32 [(1#5, 1#32)] [] 0xFE009CE3#32) = some (true, 8#32) := by decide
theorem test_bne_notTaken : onlyPc (start 0x10#32 [(1#5, 5#32)] [] 0xFE109EE3#32) = some (true, 0x14#32) := by decide
theorem test_beqEncoding_unequal :
    onlyPc (start 0#32 [(1#5, 1#32), (2#5, 2#32)] [] 0x00208463#32) = some (true, 8#32) := by decide
theorem test_beqEncoding_equal :
    onlyPc (start 0#32 [(1#5, 2#32), (2#5, 2#32)] [] 0x00208463#32) = some (true, 4#32) := by decide
theorem test_bltEncoding :
    onlyPc (start 0#32 [(1#5, 2#32), (2#5, 1#32)] [] 0x0020C463#32) = some (true, 8#32) := by decide
theorem test_branchFunct3_010 :
    onlyPc (start 0#32 [(1#5, 1#32), (2#5, 2#32)] [] 0b0_000000_00010_00001_010_0100_0_1100011#32) = some (true, 8#32) := by decide
theorem test_branchFunct3_011 :
    onlyPc (start 0#32 [(1#5, 1#32), (2#5, 2#32)] [] 0b0_000000_00010_00001_011_0100_0_1100011#32) = some (true, 8#32) := by decide
theorem test_bgeEncoding :
    onlyPc (start 0#32 [(1#5, 1#32), (2#5, 2#32)] [] 0b0_000000_00010_00001_101_0100_0_1100011#32) = some (true, 8#32) := by decide
theorem test_bltuEncoding :
    onlyPc (start 0#32 [(1#5, 1#32), (2#5, 2#32)] [] 0b0_000000_00010_00001_110_0100_0_1100011#32) = some (true, 8#32) := by decide
theorem test_bgeuEncoding :
    onlyPc (start 0#32 [(1#5, 1#32), (2#5, 2#32)] [] 0b0_000000_00010_00001_111_0100_0_1100011#32) = some (true, 8#32) := by decide
theorem test_jalr_rdIsRs1 :
    regsAfter (start 4#32 [(5#5, 0x10#32)] [] 0x004282E7#32) [5#5] = some ([8#32], 0x14#32) := by decide
theorem test_jalr_oddTarget :
    regsAfter (start 4#32 [(5#5, 0x10#32)] [] 0x001280E7#32) [1#5] = some ([8#32], 0x11#32) := by decide

/-! ### Upper immediate and Unknown words (95_test_vectors.md sections 2.10 and 2.11) -/

theorem test_lui :
    regsAfter (start 0#32 [(31#5, 5#32)] [] 0x000F80B7#32) [1#5] = some ([0x000F8000#32], 4#32) := by decide
theorem test_lui_x0 : regsAfter (start 0#32 [] [] 0xABCDE037#32) [0#5] = some ([0#32], 4#32) := by decide
theorem test_unknown_jal : onlyPc (start 0#32 [(1#5, 0x2000#32)] [] 0x008000EF#32) = some (true, 4#32) := by decide
theorem test_unknown_auipc : onlyPc (start 0#32 [(1#5, 0x2000#32)] [] 0x00001097#32) = some (true, 4#32) := by decide
theorem test_unknown_ecall : onlyPc (start 0#32 [(1#5, 0x2000#32)] [] 0x00000073#32) = some (true, 4#32) := by decide
theorem test_unknown_fence : onlyPc (start 0#32 [(1#5, 0x2000#32)] [] 0x0FF0000F#32) = some (true, 4#32) := by decide
theorem test_unknown_allOnes : onlyPc (start 0#32 [(1#5, 0x2000#32)] [] 0xFFFFFFFF#32) = some (true, 4#32) := by decide
theorem test_unknown_allZero : onlyPc (start 0#32 [(1#5, 0x2000#32)] [] 0x00000000#32) = some (true, 4#32) := by decide

/-! ### Fetch faults, the halt test and construction (95_test_vectors.md section 2.12) -/

/-- The state of section 2.12's fetch case: 8 bytes of image in 8 bytes of instruction memory, pc = 6. -/
def fetchCase : State := { State.reset with config := { imemSize := 8, dmemSize := 4096, addUsesBit30 := false },
                                            imem := [(0, 0x13#8), (4, 0x13#8)], imageLen := 8, pc := 6#32 }

theorem test_fetch_fault :
    faultOf (step fetchCase) = some (.fetchOutOfRange 6#32) ∧ haltTest fetchCase = .faulted (.fetchOutOfRange 6#32) ∧
    haltTest { fetchCase with pc := 8#32 } = .halted ∧ haltTest { fetchCase with pc := 4#32 } = .running := by decide
theorem test_halt_zeroOpcode :
    haltTest (start 0#32 [] [] 0xFFFFFF80#32) = .halted ∧ haltTest (start 0#32 [] [] 0xFFFFFF81#32) = .running := by decide
/-- The two words of program P1. -/
def imageP1 : List Byte := [0x93#8, 0x00#8, 0x50#8, 0x00#8, 0x93#8, 0x80#8, 0xA0#8, 0x00#8]

theorem test_construct :
    (construct Config.default imageP1).map (fun s => (s.imem.readWord 0, s.imem.readWord 4, s.imageLen, s.pc)) =
      some (0x00500093#32, 0x00A08093#32, 8, 0#32) ∧
    construct { Config.default with imemSize := 7 } imageP1 = none := by decide
theorem test_core_resets : Sys2Proof.core.reset = State.reset := rfl
theorem test_withFetchWord :
    nextOf (step (State.reset.withFetchWord 32 0x00500093)) =
    some { State.reset.withFetchWord 32 0x00500093 with pc := 4#32, regs := (Vector.replicate 32 0#32).set 1 5#32 } := by decide

/-! ### Witnesses: a state and operands that meet the hypotheses of each statement -/

theorem witness_EncodedInstructionDecodesToItself :
    (Instr.bne 1#5 0#5 (-4096#13)).wf = true ∧ (Instr.bne 1#5 0#5 4094#13).wf = true ∧ (Instr.sw 31#5 0#5 (-2048#12)).wf = true := by decide
theorem witness_EveryWordSelectsExactlyOneRow :
    0x022081B3#32 &&& (Instr.add 0#5 0#5 0#5).rowMask = (Instr.add 0#5 0#5 0#5).rowMatch := by decide
theorem witness_BytesDecodeFourAtATime : ([] : List Byte).length < 4 ∧ [0x93#8, 0x00#8, 0x50#8].length < 4 := by decide
theorem witness_BitThirtyNeverReachesRType :
    opcodeField 0x002081B3#32 = 0b0110011#7 ∧ (start 0#32 [(1#5, 7#32)] [] 0x002081B3#32).config.addUsesBit30 = false := by decide
theorem witness_ControlTablesOfTheSource :
    0b1101111#7 ∉ [0b0110011#7, 0b0010011#7, 0b0000011#7, 0b0100011#7, 0b1100011#7, 0b1100111#7, 0b0110111#7] := by decide
theorem witness_StepRunsTheDecodedInstruction :
    (start 4092#32 [] [] 0x00500093#32).faultMark = none ∧
    (start 4092#32 [] [] 0x00500093#32).pc.toNat + 4 ≤ (start 4092#32 [] [] 0x00500093#32).config.imemSize ∧
    decode (instructionWordAt (start 4092#32 [] [] 0x00500093#32) 4092) = .addi 1#5 0#5 5#12 := by decide
theorem witness_FetchOutsideFaultsBeforeDecode :
    ({ State.reset with pc := 4093#32 } : State).faultMark = none ∧ State.reset.config.imemSize < (4093#32).toNat + 4 := by decide
theorem witness_PlacedWordIsTheNextInstruction :
    32 ≤ 32 ∧ State.reset.faultMark = none ∧ State.reset.imem.wf = true ∧ (4092#32).toNat + 4 ≤ State.reset.config.imemSize := by decide
theorem witness_AddSubtractsUnlessSwitched : 0x022081B3#32 &&& 0x4000707F#32 = 0x00000033#32 := by decide
theorem witness_SubWritesDifference : 0x402081B3#32 &&& 0x4000707F#32 = 0x40000033#32 := by decide
theorem witness_AndWritesBitwiseAnd : 0x0020F1B3#32 &&& 0x0000707F#32 = 0x00007033#32 := by decide
theorem witness_OrWritesZero : 0x0020E1B3#32 &&& 0x0000707F#32 = 0x00006033#32 := by decide
theorem witness_SraShiftsArithmetically :
    0x4020D1B3#32 &&& 0x0000707F#32 = 0x00005033#32 ∧
    0x0020D1B3#32 &&& 0x0000707F#32 = 0x00005033#32 := by decide
theorem witness_OtherRTypeWordsWriteZero :
    0x002091B3#32 &&& 0x0000707F#32 = 0x00001033#32 ∧
    0x0020A1B3#32 &&& 0x0000707F#32 = 0x00002033#32 ∧
    0x0020B1B3#32 &&& 0x0000707F#32 = 0x00003033#32 ∧
    0x0020C1B3#32 &&& 0x0000707F#32 = 0x00004033#32 ∧
    Instr.sllEncoding 3#5 1#5 2#5 ∈ ([.sllEncoding 3#5 1#5 2#5, .sltEncoding 3#5 1#5 2#5, .sltuEncoding 3#5 1#5 2#5, .xorEncoding 3#5 1#5 2#5] : List Instr) ∧
    Instr.xorEncoding 3#5 1#5 2#5 ∈ ([.sllEncoding 3#5 1#5 2#5, .sltEncoding 3#5 1#5 2#5, .sltuEncoding 3#5 1#5 2#5, .xorEncoding 3#5 1#5 2#5] : List Instr) := by decide
theorem witness_AddiWritesSum : 0x00500093#32 &&& 0x0000707F#32 = 0x00000013#32 := by decide
theorem witness_OriWritesBitwiseOr : 0x0F00E193#32 &&& 0x0000707F#32 = 0x00006013#32 := by decide
theorem witness_SltiuComparesUnsigned : 0x0010B193#32 &&& 0x0000707F#32 = 0x00003013#32 := by decide
theorem witness_OtherImmediateWordsWriteZero :
    0x00209193#32 &&& 0x0000707F#32 = 0x00001013#32 ∧
    0x0010A193#32 &&& 0x0000707F#32 = 0x00002013#32 ∧
    0xFFF0C193#32 &&& 0x0000707F#32 = 0x00004013#32 ∧
    0x4040D193#32 &&& 0x0000707F#32 = 0x00005013#32 ∧
    0x0FF0F193#32 &&& 0x0000707F#32 = 0x00007013#32 ∧
    Instr.slliEncoding 3#5 1#5 4#12 ∈ ([.slliEncoding 3#5 1#5 4#12, .sltiEncoding 3#5 1#5 4#12, .xoriEncoding 3#5 1#5 4#12, .srliSraiEncoding 3#5 1#5 4#12, .andiEncoding 3#5 1#5 4#12] : List Instr) ∧
    Instr.andiEncoding 3#5 1#5 4#12 ∈ ([.slliEncoding 3#5 1#5 4#12, .sltiEncoding 3#5 1#5 4#12, .xoriEncoding 3#5 1#5 4#12, .srliSraiEncoding 3#5 1#5 4#12, .andiEncoding 3#5 1#5 4#12] : List Instr) := by decide
/-- The address of `0(x3)` at the last place an access of n bytes fits and at the first where it does not. -/
def atAddress (a : Word) : State := start 0#32 [(2#5, 0xFFFF#32), (3#5, a)] wordAt100 0#32

theorem witness_LwReadsFourBytes :
    0x0001A203#32 &&& 0x0000707F#32 = 0x00002003#32 ∧
    ((atAddress 0xFFC#32).effectiveAddress 3#5 0#12).toNat + 4 ≤ (atAddress 0xFFC#32).config.dmemSize ∧
    (atAddress 0xFFD#32).config.dmemSize < ((atAddress 0xFFD#32).effectiveAddress 3#5 0#12).toNat + 4 := by decide
theorem witness_LbuReadsOneByteZeroExtended :
    0x0011C283#32 &&& 0x0000707F#32 = 0x00004003#32 ∧
    ((atAddress 0xFFF#32).effectiveAddress 3#5 0#12).toNat + 1 ≤ (atAddress 0xFFF#32).config.dmemSize ∧
    (atAddress 0x1000#32).config.dmemSize < ((atAddress 0x1000#32).effectiveAddress 3#5 0#12).toNat + 1 := by decide
theorem witness_OtherLoadsReadOneByte :
    0x00318283#32 &&& 0x0000707F#32 = 0x00000003#32 ∧
    0x00019283#32 &&& 0x0000707F#32 = 0x00001003#32 ∧
    0x0001B283#32 &&& 0x0000707F#32 = 0x00003003#32 ∧
    0x0001D283#32 &&& 0x0000707F#32 = 0x00005003#32 ∧
    0x0001E283#32 &&& 0x0000707F#32 = 0x00006003#32 ∧
    0x0001F283#32 &&& 0x0000707F#32 = 0x00007003#32 ∧
    Instr.lbEncoding 5#5 3#5 0#12 ∈ ([.lbEncoding 5#5 3#5 0#12, .lhEncoding 5#5 3#5 0#12, .loadFunct3_011 5#5 3#5 0#12, .lhuEncoding 5#5 3#5 0#12, .loadFunct3_110 5#5 3#5 0#12, .loadFunct3_111 5#5 3#5 0#12] : List Instr) ∧
    Instr.loadFunct3_111 5#5 3#5 0#12 ∈ ([.lbEncoding 5#5 3#5 0#12, .lhEncoding 5#5 3#5 0#12, .loadFunct3_011 5#5 3#5 0#12, .lhuEncoding 5#5 3#5 0#12, .loadFunct3_110 5#5 3#5 0#12, .loadFunct3_111 5#5 3#5 0#12] : List Instr) ∧
    ((atAddress 0xFFF#32).effectiveAddress 3#5 0#12).toNat + 1 ≤ (atAddress 0xFFF#32).config.dmemSize ∧
    (atAddress 0x1000#32).config.dmemSize < ((atAddress 0x1000#32).effectiveAddress 3#5 0#12).toNat + 1 := by decide
theorem witness_SwWritesFourBytes :
    0x0021A023#32 &&& 0x0000707F#32 = 0x00002023#32 ∧
    (atAddress 0xFFC#32).dmem.wf = true ∧
    (atAddress 0xFFD#32).dmem.wf = true ∧
    ((atAddress 0xFFC#32).effectiveAddress 3#5 0#12).toNat + 4 ≤ (atAddress 0xFFC#32).config.dmemSize ∧
    (atAddress 0xFFD#32).config.dmemSize < ((atAddress 0xFFD#32).effectiveAddress 3#5 0#12).toNat + 4 := by decide
theorem witness_ShWritesTwoBytes :
    0x00219223#32 &&& 0x0000707F#32 = 0x00001023#32 ∧
    (atAddress 0xFFE#32).dmem.wf = true ∧
    (atAddress 0xFFF#32).dmem.wf = true ∧
    ((atAddress 0xFFE#32).effectiveAddress 3#5 0#12).toNat + 2 ≤ (atAddress 0xFFE#32).config.dmemSize ∧
    (atAddress 0xFFF#32).config.dmemSize < ((atAddress 0xFFF#32).effectiveAddress 3#5 0#12).toNat + 2 := by decide
theorem witness_OtherStoresWriteTwoBytes :
    0x00218423#32 &&& 0x0000707F#32 = 0x00000023#32 ∧
    0x0021B423#32 &&& 0x0000707F#32 = 0x00003023#32 ∧
    0x0021C423#32 &&& 0x0000707F#32 = 0x00004023#32 ∧
    0x0021D423#32 &&& 0x0000707F#32 = 0x00005023#32 ∧
    0x0021E423#32 &&& 0x0000707F#32 = 0x00006023#32 ∧
    0x0021F423#32 &&& 0x0000707F#32 = 0x00007023#32 ∧
    Instr.sbEncoding 2#5 3#5 0#12 ∈ ([.sbEncoding 2#5 3#5 0#12, .storeFunct3_011 2#5 3#5 0#12, .storeFunct3_100 2#5 3#5 0#12, .storeFunct3_101 2#5 3#5 0#12, .storeFunct3_110 2#5 3#5 0#12, .storeFunct3_111 2#5 3#5 0#12] : List Instr) ∧
    Instr.storeFunct3_111 2#5 3#5 0#12 ∈ ([.sbEncoding 2#5 3#5 0#12, .storeFunct3_011 2#5 3#5 0#12, .storeFunct3_100 2#5 3#5 0#12, .storeFunct3_101 2#5 3#5 0#12, .storeFunct3_110 2#5 3#5 0#12, .storeFunct3_111 2#5 3#5 0#12] : List Instr) ∧
    (atAddress 0xFFE#32).dmem.wf = true ∧
    (atAddress 0xFFF#32).dmem.wf = true ∧
    ((atAddress 0xFFE#32).effectiveAddress 3#5 0#12).toNat + 2 ≤ (atAddress 0xFFE#32).config.dmemSize ∧
    (atAddress 0xFFF#32).config.dmemSize < ((atAddress 0xFFF#32).effectiveAddress 3#5 0#12).toNat + 2 := by decide
theorem witness_BneBranchesWhenOperandsDiffer : 0xFE009CE3#32 &&& 0x0000707F#32 = 0x00001063#32 := by decide
theorem witness_OtherBranchesBehaveAsBne :
    0x00208463#32 &&& 0x0000707F#32 = 0x00000063#32 ∧
    0x0020A463#32 &&& 0x0000707F#32 = 0x00002063#32 ∧
    0x0020B463#32 &&& 0x0000707F#32 = 0x00003063#32 ∧
    0x0020C463#32 &&& 0x0000707F#32 = 0x00004063#32 ∧
    0x0020D463#32 &&& 0x0000707F#32 = 0x00005063#32 ∧
    0x0020E463#32 &&& 0x0000707F#32 = 0x00006063#32 ∧
    0x0020F463#32 &&& 0x0000707F#32 = 0x00007063#32 ∧
    Instr.beqEncoding 1#5 2#5 8#13 ∈ ([.beqEncoding 1#5 2#5 8#13, .branchFunct3_010 1#5 2#5 8#13, .branchFunct3_011 1#5 2#5 8#13, .bltEncoding 1#5 2#5 8#13, .bgeEncoding 1#5 2#5 8#13, .bltuEncoding 1#5 2#5 8#13, .bgeuEncoding 1#5 2#5 8#13] : List Instr) ∧
    Instr.bgeuEncoding 1#5 2#5 8#13 ∈ ([.beqEncoding 1#5 2#5 8#13, .branchFunct3_010 1#5 2#5 8#13, .branchFunct3_011 1#5 2#5 8#13, .bltEncoding 1#5 2#5 8#13, .bgeEncoding 1#5 2#5 8#13, .bltuEncoding 1#5 2#5 8#13, .bgeuEncoding 1#5 2#5 8#13] : List Instr) := by decide
theorem witness_JalrLinksAndJumps :
    0x000280E7#32 &&& 0x0000007F#32 = 0x00000067#32 ∧
    0x0002F0E7#32 &&& 0x0000007F#32 = 0x00000067#32 := by decide
theorem witness_LuiWritesUpperImmediate : 0xABCDE0B7#32 &&& 0x0000007F#32 = 0x00000037#32 := by decide
theorem witness_UnknownWordsOnlyAdvance :
    opcodeField 0x008000EF#32 ∉ [0b0110011#7, 0b0010011#7, 0b0000011#7, 0b0100011#7, 0b1100011#7, 0b1100111#7, 0b0110111#7] ∧
    Instr.unknown1101111.format = .Unknown ∧ Instr.unknown0000000.format = .Unknown ∧ Instr.unknown1111111.format = .Unknown := by decide
theorem witness_ZeroRegisterReadsZero : (5#5 : RegIdx) ≠ 0#5 ∧ (31#5 : RegIdx) ≠ 0#5 := by decide
/-- SW x2,0(x3) at pc 0, and the state after its cycle. -/
def beforeStore : State := start 0#32 [(2#5, 0x12345678#32), (3#5, 0x100#32)] [] 0x0021A023#32

def afterStore : State := { beforeStore with dmem := wordAt100, pc := 4#32 }

theorem step_beforeStore : step beforeStore = .next afterStore := rfl

theorem beforeStore_Inv : Inv beforeStore :=
  ⟨by decide, by decide, by decide, by decide, by decide, by decide, by decide⟩

theorem witness_InvariantKeptByStep :
    Inv beforeStore ∧ step beforeStore = .next afterStore := ⟨beforeStore_Inv, step_beforeStore⟩
theorem witness_ConstructionGivesTheResetState :
    Config.default.wf = true ∧ ({ Config.default with imemSize := 7 } : Config).wf = true ∧
    7 < imageP1.length ∧ ({ Config.default with imemSize := 8 } : Config).wf = true ∧ imageP1.length ≤ 8 := by decide
/-- The machine constructed with the image of program P1. -/
def machineP1 : State :=
  { State.reset with imem := [(0, 0x93#8), (2, 0x50#8), (4, 0x93#8), (5, 0x80#8), (6, 0xA0#8)], imageLen := 8 }

/-- The same after its first cycle. -/
def machineP1' : State := { machineP1 with pc := 4#32, regs := machineP1.regs.set 1 5#32 }

theorem construct_P1 : construct Config.default imageP1 = some machineP1 := by decide

theorem step_P1 : step machineP1 = .next machineP1' := rfl

theorem witness_RegistersZeroAfterConstruction : construct Config.default imageP1 = some machineP1 := construct_P1
/-- Six bytes of P1: the word at pc 4 lies across the image's end, and its two last bytes read 0. -/
def machineCut : State :=
  { State.reset with imem := [(0, 0x93#8), (2, 0x50#8), (4, 0x93#8), (5, 0x80#8)], imageLen := 6 }

def machineCut' : State := { machineCut with pc := 4#32, regs := machineCut.regs.set 1 5#32 }

theorem construct_cut : construct Config.default (imageP1.take 6) = some machineCut := by decide

theorem step_cut : step machineCut = .next machineCut' := rfl

/-- A word inside the image, at its last place, and a word across its end. -/
theorem witness_InstructionMemoryIsTheImage :
    construct Config.default imageP1 = some machineP1 ∧ Reaches machineP1 machineP1' ∧
    machineP1'.pc.toNat + 4 ≤ Config.default.imemSize ∧ machineP1'.pc.toNat + 3 < imageP1.length ∧
    construct Config.default (imageP1.take 6) = some machineCut ∧ Reaches machineCut machineCut' ∧
    machineCut'.pc.toNat + 4 ≤ Config.default.imemSize ∧ (imageP1.take 6).length < machineCut'.pc.toNat + 4 := ⟨construct_P1, .tail .refl step_P1, by decide, by decide, construct_cut, .tail .refl step_cut, by decide, by decide⟩
/-- The bytes past the image read 0 (R25): ADDI x1,x1,0. -/
theorem test_fetch_acrossImageEnd :
    instructionWordAt machineCut' 4 = 0x00008093#32 ∧ decode 0x00008093#32 = .addi 1#5 1#5 0#12 := by decide
/-- A store, whose opcode has no regWrite, with the bytes just below and just past it; and an ADDI. -/
theorem witness_AtMostOneWritePerCycle :
    beforeStore.dmem.wf = true ∧ step beforeStore = .next afterStore ∧
    opcodeField (instructionWordAt beforeStore 0) = 0b0100011#7 ∧
    (0xFF < (beforeStore.effectiveAddress 3#5 0#12).toNat ∧ (beforeStore.effectiveAddress 3#5 0#12).toNat + 4 ≤ 0x104) ∧
    machineP1.dmem.wf = true ∧ step machineP1 = .next machineP1' ∧ opcodeField (instructionWordAt machineP1 0) ≠ 0b0100011#7 ∧
    (2#5 : RegIdx) ≠ rdField (instructionWordAt machineP1 0) := ⟨by decide, step_beforeStore, by decide, by decide, by decide, step_P1, by decide, by decide⟩
def branchCase : State := start 0x10#32 [(1#5, 1#32)] [] 0xFE009CE3#32

def jumpCase : State := start 4#32 [(5#5, 0x10#32)] [] 0x000280E7#32

/-- A store; BNE x1,x0,-8 with x1 = 1; JALR x1,0(x5) with x5 = 0x10 at pc 4. -/
theorem witness_NextPcIsOneOfThree :
    step beforeStore = .next afterStore ∧
    nextOf (step branchCase) = some { branchCase with pc := 8#32 } ∧
    nextOf (step jumpCase) = some { jumpCase with pc := 0x10#32, regs := jumpCase.regs.set 1 8#32 } := ⟨step_beforeStore, rfl, rfl⟩
/-- Program counter 0, x3 = a, and a word there. -/
def at3 (a w : Word) : State := start 0#32 [(3#5, a)] [] w

/-- Each width at the last address inside data memory and the first outside, and an opcode of neither kind. -/
theorem witness_StepStopsOnlyByModelFaults :
    (at3 0xFFD#32 0x0001A203#32).faultMark = none ∧ (0#32).toNat + 4 ≤ (at3 0xFFD#32 0x0001A203#32).config.imemSize ∧
    opcodeField 0x0001A203#32 = 0b0000011#7 ∧ instructionWordAt (at3 0xFFD#32 0x0001A203#32) 0 = 0x0001A203#32 ∧
    (at3 0xFFD#32 0x0001A203#32).effectiveAddress (rs1Field 0x0001A203#32) (immIField 0x0001A203#32) = 0xFFD#32 ∧
    4096 < (0xFFD#32).toNat + 4 ∧ (0xFFC#32).toNat + 4 ≤ 4096 ∧
    opcodeField 0x0001C203#32 = 0b0000011#7 ∧ instructionWordAt (at3 0x1000#32 0x0001C203#32) 0 = 0x0001C203#32 ∧
    (at3 0x1000#32 0x0001C203#32).effectiveAddress (rs1Field 0x0001C203#32) (immIField 0x0001C203#32) = 0x1000#32 ∧
    4096 < (0x1000#32).toNat + 1 ∧ (0xFFF#32).toNat + 1 ≤ 4096 ∧
    opcodeField 0x0021A023#32 = 0b0100011#7 ∧ instructionWordAt (at3 0xFFD#32 0x0021A023#32) 0 = 0x0021A023#32 ∧
    (at3 0xFFD#32 0x0021A023#32).effectiveAddress (rs1Field 0x0021A023#32) (immSField 0x0021A023#32) = 0xFFD#32 ∧
    opcodeField 0x00219023#32 = 0b0100011#7 ∧ instructionWordAt (at3 0xFFF#32 0x00219023#32) 0 = 0x00219023#32 ∧
    (at3 0xFFF#32 0x00219023#32).effectiveAddress (rs1Field 0x00219023#32) (immSField 0x00219023#32) = 0xFFF#32 ∧
    4096 < (0xFFF#32).toNat + 2 ∧ (0xFFE#32).toNat + 2 ≤ 4096 ∧
    opcodeField 0x00500093#32 ≠ 0b0000011#7 ∧ opcodeField 0x00500093#32 ≠ 0b0100011#7 := by decide
theorem witness_StoredValueReadsBackAtEveryWidth :
    beforeStore.dmem.wf = true ∧
    (beforeStore.effectiveAddress 3#5 0#12).toNat + 4 ≤ beforeStore.config.dmemSize ∧
    exec (.sw 2#5 3#5 0#12) beforeStore = .next afterStore ∧ (4#5 : RegIdx) ≠ 0#5 ∧
    afterStore.effectiveAddress 3#5 0#12 = beforeStore.effectiveAddress 3#5 0#12 ∧
    (afterStore.effectiveAddress 3#5 3#12).toNat = (beforeStore.effectiveAddress 3#5 0#12).toNat + 3 := ⟨by decide, by decide, rfl, by decide, by decide, by decide⟩
/-- After a store; at the last address an LW fits and the last a narrow load fits. -/
theorem witness_LoadsSeeTheLatestStore :
    beforeStore.dmem.wf = true ∧
    StoreTrace beforeStore (storedBytes beforeStore ++ []) afterStore ∧
    storedBytes beforeStore = [(0x103, 0x12#8), (0x102, 0x34#8), (0x101, 0x56#8), (0x100, 0x78#8)] ∧
    (afterStore.effectiveAddress 3#5 0#12).toNat + 4 ≤ afterStore.config.dmemSize ∧
    StoreTrace (atAddress 0xFFC#32) [] (atAddress 0xFFC#32) ∧ (atAddress 0xFFC#32).dmem.wf = true ∧
    ((atAddress 0xFFC#32).effectiveAddress 3#5 0#12).toNat + 4 ≤ (atAddress 0xFFC#32).config.dmemSize ∧
    StoreTrace (atAddress 0xFFF#32) [] (atAddress 0xFFF#32) ∧ (atAddress 0xFFF#32).dmem.wf = true ∧
    ((atAddress 0xFFF#32).effectiveAddress 3#5 0#12).toNat + 1 ≤ (atAddress 0xFFF#32).config.dmemSize ∧
    Instr.lbu 5#5 3#5 0#12 ∈ ([.lbEncoding 5#5 3#5 0#12, .lhEncoding 5#5 3#5 0#12, .loadFunct3_011 5#5 3#5 0#12, .lbu 5#5 3#5 0#12,
      .lhuEncoding 5#5 3#5 0#12, .loadFunct3_110 5#5 3#5 0#12, .loadFunct3_111 5#5 3#5 0#12] : List Instr) := ⟨by decide, .tail .refl step_beforeStore, by decide, by decide, .refl, by decide, by decide, .refl, by decide, by decide, by decide⟩
theorem witness_FaultedStateIsFinal :
    (State.reset.withFaultMark (.fetchOutOfRange 0#32)).faultMark = some (.fetchOutOfRange 0#32) := rfl
/-- The three sides: the pc at the image length; a zero opcode inside the image; a fetch that leaves memory. -/
theorem witness_HaltTestIsPcOrZeroOpcode :
    fetchCase.imageLen ≤ ({ fetchCase with pc := 8#32 } : State).pc.toNat ∧
    ((start 0#32 [] [] 0xFFFFFF80#32).pc.toNat + 4 ≤ 4096 ∧ ((start 0#32 [] [] 0xFFFFFF80#32).imem.read 0) &&& 0x7F#8 = 0#8) ∧
    fetchCase.pc.toNat < fetchCase.imageLen ∧ fetchCase.config.imemSize < fetchCase.pc.toNat + 4 := by decide
/-- The second word of program P6: SW x0,0(x1) with x1 = DMEM_SIZE. -/
def atFault : State := start 4#32 [(1#5, 0x1000#32)] [] 0x0000A023#32

/-- P1 with its first word alone in the image: its one cycle reaches the image length. -/
def machineHalts : State := { machineP1 with imageLen := 4 }

def machineHalts' : State := { machineHalts with pc := 4#32, regs := machineP1.regs.set 1 5#32 }

theorem step_halts : step machineHalts = .next machineHalts' := rfl

/-- The second cycle of P1 (x1 = 15, 95_test_vectors.md S6), and a state for each equation. -/
theorem witness_RunEndsOnlyAtAHaltedState :
    run 1 machineP1' = .final { machineP1' with pc := 8#32, regs := machineP1.regs.set 1 15#32 } ∧
    haltTest { machineP1' with pc := 8#32 } = .halted ∧ machineP1'.faultMark = none ∧
    haltTest fetchCase = .faulted (.fetchOutOfRange 6#32) ∧ fetchCase.faultMark = none ∧
    haltTest machineP1 = .running ∧ step machineP1 = .next machineP1' ∧
    haltTest atFault = .running ∧ step atFault = .fault (.dataOutOfRange 0x1000#32 4) ∧ atFault.faultMark = none := ⟨by decide, by decide, rfl, by decide, rfl, by decide, step_P1, by decide, rfl, rfl⟩
/-- One cycle to a halted state, and no cycle to a faulting halt test and to a faulting cycle. -/
theorem witness_RunCompletesWhenTheHaltTestIsReached :
    RunsFor machineP1 1 machineP1' ∧ RunsFor machineHalts 1 machineHalts' ∧
    haltTest machineHalts' = .halted ∧ machineHalts'.faultMark = none ∧
    RunsFor fetchCase 0 fetchCase ∧ haltTest fetchCase = .faulted (.fetchOutOfRange 6#32) ∧
    RunsFor atFault 0 atFault ∧ 0 < 1 ∧ haltTest atFault = .running ∧ step atFault = .fault (.dataOutOfRange 0x1000#32 4) := ⟨.tail .refl (by decide) step_P1, .tail .refl (by decide) step_halts, by decide, rfl, .refl, by decide, .refl, by decide, by decide, rfl⟩
theorem witness_RunFaultKeepsTheStateBefore :
    (atFault).faultMark = none ∧ run 1 atFault = .faulted (atFault.withFaultMark (.dataOutOfRange 0x1000#32 4)) := by decide
theorem witness_RunEndIndependentOfFuel :
    (0 : Nat) ≤ 1 ∧ run 0 { machineP1' with pc := 8#32 } = .final { machineP1' with pc := 8#32 } := by decide

end Sys2Proof.Tests
end

