-- ==== Sys2Proof/Proofs/State.lean ====
section
/-! PROOFS. The register file: what a read port shows after the write port is driven, and after construction
(10_state.md R13 to R16, R19). -/

namespace Sys2Proof.Machine

/-- A write addressed to x0 is discarded, whatever the enable (R16). -/
@[simp] theorem State.writePort_zero (s : State) (v : Word) (en : Bool) : s.writePort 0#5 v en = s := by
  simp [State.writePort]

/-- What a read port shows after the write port is driven: `State.setX_x` for either value of the enable (R14, R16). -/
theorem State.writePort_x (s : State) (i : RegIdx) (v : Word) (en : Bool) (j : RegIdx) :
    (s.writePort i v en).x j = if j = 0#5 then 0#32 else if en = true ∧ j = i then v else s.x j := by
  cases en with
  | false => by_cases hj : j = 0#5 <;> simp [hj]
  | true => simpa [State.setX] using s.setX_x i v j

/-- A register file whose stored entries are all 0 reads 0 at every port. -/
theorem State.x_of_regs_eq_zero {s : State} (h : s.regs = Vector.replicate 32 0#32) (i : RegIdx) : s.x i = 0#32 := by
  simp [State.x, h]

/-- The machine that an image not longer than instruction memory is constructed into (R123 to R125). -/
def constructed (config : Config) (image : List Byte) : State :=
  { State.reset with config := config, imem := Memory.writeBytes [] 0 image, imageLen := image.length }

/-- Construction gives a machine exactly for the images that fit, and then that one (R125, D19). -/
theorem construct_eq_some_iff {config : Config} {image : List Byte} {s : State} :
    construct config image = some s ↔ image.length ≤ config.imemSize ∧ s = constructed config image := by
  by_cases hfit : image.length ≤ config.imemSize
  · simp [construct, constructed, hfit, eq_comm]
  · simp [construct, hfit]

/-- Whatever the image and the configuration, construction leaves every stored entry of the register file 0 (R19). -/
theorem regs_of_construct {config : Config} {image : List Byte} {s : State} (h : construct config image = some s) :
    s.regs = Vector.replicate 32 0#32 := by
  obtain ⟨-, rfl⟩ := construct_eq_some_iff.mp h
  rfl

end Sys2Proof.Machine

namespace Sys2Proof.Proofs

open Sys2Proof.Machine

/-- Settles O36: the three clauses are the read port at x0, the discarded write, and the read port after a write. -/
theorem zeroRegisterReadsZero : Obligations.ZeroRegisterReadsZero := by
  intro s i v enable
  refine ⟨State.x_zero _, s.writePort_zero v enable, fun j hj => ?_⟩
  rw [s.writePort_x, if_neg hj]

/-- Settles O40: both states store a register file of zeros, and such a file reads 0 at every port. -/
theorem registersZeroAfterConstruction : Obligations.RegistersZeroAfterConstruction := by
  refine ⟨State.x_of_regs_eq_zero rfl, fun config image s h => ?_⟩
  have hregs := regs_of_construct h
  exact ⟨State.x_of_regs_eq_zero hregs, hregs⟩

end Sys2Proof.Proofs
end

