-- ==== Sys2Proof/Proofs/Encoding.lean ====
section
/-! PROOFS. The immediate generator read as arithmetic on the fields of the word (30_encoding.md section 3, R57 to R61). -/

namespace Sys2Proof

/-- The sign bit of an immediate counts -1 (R57 to R59). -/
theorem toInt_signBit (w : Word) : (w.extractLsb' 31 1).toInt = -(if w[31] then 1 else 0) := by
  have hbit : w.extractLsb' 31 1 = BitVec.ofBool w[31] := by
    apply BitVec.eq_of_getElem_eq
    intro i hi
    obtain rfl : i = 0 := by omega
    simp [BitVec.getLsbD_eq_getElem]
  rw [hbit, BitVec.toInt_ofBool]
  cases w[31] <;> rfl

/-- The 12 bits of an I immediate, as an integer: the sign bit above bits 30:20 of the word (R57). -/
theorem toInt_immIField (w : Word) :
    (immIField w).toInt = ((w.extractLsb' 20 11).toNat : Int) - (if w[31] then 2048 else 0) := by
  have hsplit : immIField w = w.extractLsb' 31 1 ++ w.extractLsb' 20 11 :=
    (BitVec.extractLsb'_append_extractLsb'_eq_extractLsb' (start₁ := 20) (len₁ := 11) (len₂ := 1) rfl).symm
  rw [hsplit, BitVec.toInt_append, toInt_signBit]
  cases w[31] with
  | false => simp
  | true => simp; omega

/-- The 12 bits of an S immediate, as an integer: the sign bit above bits 30:25, above bits 11:7 (R58). -/
theorem toInt_immSField (w : Word) :
    (immSField w).toInt =
      32 * ((w.extractLsb' 25 6).toNat : Int) + ((w.extractLsb' 7 5).toNat : Int) - (if w[31] then 2048 else 0) := by
  have hsplit : w.extractLsb' 25 7 = w.extractLsb' 31 1 ++ w.extractLsb' 25 6 :=
    (BitVec.extractLsb'_append_extractLsb'_eq_extractLsb' (start₁ := 25) (len₁ := 6) (len₂ := 1) rfl).symm
  rw [immSField, BitVec.toInt_append, hsplit, BitVec.toInt_append, toInt_signBit]
  cases w[31] with
  | false => simp
  | true => simp; omega

/-- The 13 bits of a B immediate, as an integer: bit 0 is 0, and bits 12 and 11 are bits 31 and 7 of the word (R59). -/
theorem toInt_immBField (w : Word) :
    (immBField w).toInt =
      2048 * ((w.extractLsb' 7 1).toNat : Int) + 32 * ((w.extractLsb' 25 6).toNat : Int)
        + 2 * ((w.extractLsb' 8 4).toNat : Int) - (if w[31] then 4096 else 0) := by
  rw [immBField, BitVec.toInt_append_zero, BitVec.toInt_append, BitVec.toInt_append, BitVec.toInt_append, toInt_signBit]
  cases w[31] <;> simp <;> omega

end Sys2Proof

namespace Sys2Proof.Machine

/-- Sign extension keeps the integer (R9). -/
theorem toInt_sext12 (imm : BitVec 12) : (sext12 imm).toInt = imm.toInt := BitVec.toInt_signExtend_of_le (by omega)

/-- Sign extension keeps the integer (R9). -/
theorem toInt_sext13 (imm : BitVec 13) : (sext13 imm).toInt = imm.toInt := BitVec.toInt_signExtend_of_le (by omega)

/-- Bits 11:0 of the U immediate are 0 (R60). -/
theorem toNat_upperImm (imm20 : BitVec 20) : (upperImm imm20).toNat = 4096 * imm20.toNat := by
  calc (upperImm imm20).toNat = imm20.toNat <<< 12 ||| 0 := BitVec.toNat_append imm20 0#12
    _ = 4096 * imm20.toNat := by rw [Nat.or_zero, Nat.shiftLeft_eq, Nat.mul_comm]

end Sys2Proof.Machine

namespace Sys2Proof.Proofs

open Sys2Proof.Machine

/-- Settles O7: for each format, the immediate generator extends the format's field, and that field has the integer
value of its bits. -/
theorem immediatesAsIntegers : Obligations.ImmediatesAsIntegers := by
  intro w
  exact ⟨(toInt_sext12 _).trans (toInt_immIField w), (toInt_sext12 _).trans (toInt_immIField w),
    (toInt_sext12 _).trans (toInt_immSField w), (toInt_sext13 _).trans (toInt_immBField w),
    toNat_upperImm (immUField w), rfl, rfl⟩

end Sys2Proof.Proofs
end

