-- ==== Sys2Proof/Proofs/RegReg.lean ====
section
/-! PROOFS. The register-register instructions: which row a word of opcode 0110011 selects, and what the row writes
(41_register_register.md R89 to R93). -/

namespace Sys2Proof

/-! ### The rows of opcode 0110011 (R71) -/

theorem decodeR_funct3_000 {w : Word} (hf : funct3Field w = 0b000#3) :
    decodeR w = if funct7Bit w then .sub (rdField w) (rs1Field w) (rs2Field w)
      else .add (rdField w) (rs1Field w) (rs2Field w) := by
  simp [decodeR, hf]

theorem decodeR_sllEncoding {w : Word} (hf : funct3Field w = 0b001#3) :
    decodeR w = .sllEncoding (rdField w) (rs1Field w) (rs2Field w) := by
  simp [decodeR, hf]

theorem decodeR_sltEncoding {w : Word} (hf : funct3Field w = 0b010#3) :
    decodeR w = .sltEncoding (rdField w) (rs1Field w) (rs2Field w) := by
  simp [decodeR, hf]

theorem decodeR_sltuEncoding {w : Word} (hf : funct3Field w = 0b011#3) :
    decodeR w = .sltuEncoding (rdField w) (rs1Field w) (rs2Field w) := by
  simp [decodeR, hf]

theorem decodeR_xorEncoding {w : Word} (hf : funct3Field w = 0b100#3) :
    decodeR w = .xorEncoding (rdField w) (rs1Field w) (rs2Field w) := by
  simp [decodeR, hf]

theorem decodeR_sra {w : Word} (hf : funct3Field w = 0b101#3) :
    decodeR w = .sra (rdField w) (rs1Field w) (rs2Field w) := by
  simp [decodeR, hf]

theorem decodeR_or {w : Word} (hf : funct3Field w = 0b110#3) :
    decodeR w = .or (rdField w) (rs1Field w) (rs2Field w) := by
  simp [decodeR, hf]

theorem decodeR_and {w : Word} (hf : funct3Field w = 0b111#3) :
    decodeR w = .and (rdField w) (rs1Field w) (rs2Field w) := by
  simp [decodeR, hf]

/-- A word under the mask of opcode and funct3, whose match is of opcode 0110011, decodes as the row of the match's
funct3 says: no other bit selects a row. -/
theorem decode_of_funct3Mask_opR {w m : Word} {i : Instr} (h : w &&& 0x0000707F#32 = m)
    (hm : opcodeField m = 0b0110011#7) (hrow : funct3Field w = funct3Field m → decodeR w = i) : decode w = i := by
  obtain ⟨hop, hf⟩ := fields_of_and10 h
  exact (decode_opR (hop.trans hm)).trans (hrow hf)

/-- Of the two rows of funct3 000, bit 30 set selects SUB. -/
theorem decode_sub {w : Word} (h : w &&& 0x4000707F#32 = 0x40000033#32) :
    decode w = .sub (rdField w) (rs1Field w) (rs2Field w) := by
  obtain ⟨hop, hf, hbit⟩ := fields_of_and11 h
  have hset : funct7Bit w = true := hbit
  rw [decode_opR hop, decodeR_funct3_000 hf, if_pos hset]

end Sys2Proof

namespace Sys2Proof.Machine

/-! ### The arithmetic shift as an integer (R77, R92) -/

/-- The low five bits of operand 2 are its remainder by 32. -/
theorem shiftAmount_eq_mod (op2 : Word) : shiftAmount op2 = op2.toNat % 32 := by
  simp [shiftAmount]

/-- The arithmetic shift is the floor of the signed quotient. -/
theorem toInt_sraValue (op1 op2 : Word) : (sraValue op1 op2).toInt = op1.toInt / 2 ^ (op2.toNat % 32) := by
  rw [sraValue, BitVec.toInt_sshiftRight, Int.shiftRight_eq_div_pow, shiftAmount_eq_mod]
  norm_cast

/-- The bits of that floor are the shifted word. -/
theorem sraValue_eq_ofInt (op1 op2 : Word) :
    sraValue op1 op2 = BitVec.ofInt 32 (op1.toInt / 2 ^ (op2.toNat % 32)) := by
  rw [← toInt_sraValue, BitVec.ofInt_toInt]

end Sys2Proof.Machine

namespace Sys2Proof.Proofs

open Sys2Proof.Machine

/-- Settles O16: bit 30 selects SUB, which writes the difference back without reading the switch. -/
theorem subWritesDifference : Obligations.SubWritesDifference :=
  ⟨fun _ h => decode_sub h, fun rd rs1 rs2 s => writeBack_result rd (s.x rs1 - s.x rs2) s⟩

/-- Settles O17: funct3 111 alone selects AND, which writes the bitwise and back. -/
theorem andWritesBitwiseAnd : Obligations.AndWritesBitwiseAnd :=
  ⟨fun _ h => decode_of_funct3Mask_opR h rfl decodeR_and,
    fun rd rs1 rs2 s => writeBack_result rd (s.x rs1 &&& s.x rs2) s⟩

/-- Settles O18: funct3 110 alone selects OR, which writes 0 back (C2). -/
theorem orWritesZero : Obligations.OrWritesZero :=
  ⟨fun _ h => decode_of_funct3Mask_opR h rfl decodeR_or, fun rd _ _ s => writeBack_result rd 0#32 s⟩

/-- Settles O19: funct3 101 alone selects SRA, and the shifted word it writes back is the bits of the floor. -/
theorem sraShiftsArithmetically : Obligations.SraShiftsArithmetically := by
  refine ⟨fun _ h => decode_of_funct3Mask_opR h rfl decodeR_sra, fun rd rs1 rs2 s => ?_⟩
  rw [← sraValue_eq_ofInt]
  exact writeBack_result rd (sraValue (s.x rs1) (s.x rs2)) s

/-- Settles O20: each of the four funct3 values selects its encoding, and each encoding writes 0 back. -/
theorem otherRTypeWordsWriteZero : Obligations.OtherRTypeWordsWriteZero := by
  refine ⟨fun _ h => decode_of_funct3Mask_opR h rfl decodeR_sllEncoding,
    fun _ h => decode_of_funct3Mask_opR h rfl decodeR_sltEncoding,
    fun _ h => decode_of_funct3Mask_opR h rfl decodeR_sltuEncoding,
    fun _ h => decode_of_funct3Mask_opR h rfl decodeR_xorEncoding, fun rd rs1 rs2 s i hi => ?_⟩
  simp only [List.mem_cons, List.not_mem_nil, or_false] at hi
  obtain rfl | rfl | rfl | rfl := hi <;> exact writeBack_result rd 0#32 s

end Sys2Proof.Proofs
end

