-- ==== Sys2Proof/Proofs/RegImm.lean ====
section
/-! PROOFS. The register-immediate instructions: which row a word of opcode 0010011 selects, and what the row writes
(42_register_immediate.md R94 to R97). -/

namespace Sys2Proof

/-! ### The rows of opcode 0010011 (R71) -/

theorem decodeI_addi {w : Word} (hf : funct3Field w = 0b000#3) :
    decodeI w = .addi (rdField w) (rs1Field w) (immIField w) := by
  simp [decodeI, hf]

theorem decodeI_slliEncoding {w : Word} (hf : funct3Field w = 0b001#3) :
    decodeI w = .slliEncoding (rdField w) (rs1Field w) (immIField w) := by
  simp [decodeI, hf]

theorem decodeI_sltiEncoding {w : Word} (hf : funct3Field w = 0b010#3) :
    decodeI w = .sltiEncoding (rdField w) (rs1Field w) (immIField w) := by
  simp [decodeI, hf]

theorem decodeI_sltiu {w : Word} (hf : funct3Field w = 0b011#3) :
    decodeI w = .sltiu (rdField w) (rs1Field w) (immIField w) := by
  simp [decodeI, hf]

theorem decodeI_xoriEncoding {w : Word} (hf : funct3Field w = 0b100#3) :
    decodeI w = .xoriEncoding (rdField w) (rs1Field w) (immIField w) := by
  simp [decodeI, hf]

theorem decodeI_srliSraiEncoding {w : Word} (hf : funct3Field w = 0b101#3) :
    decodeI w = .srliSraiEncoding (rdField w) (rs1Field w) (immIField w) := by
  simp [decodeI, hf]

theorem decodeI_ori {w : Word} (hf : funct3Field w = 0b110#3) :
    decodeI w = .ori (rdField w) (rs1Field w) (immIField w) := by
  simp [decodeI, hf]

theorem decodeI_andiEncoding {w : Word} (hf : funct3Field w = 0b111#3) :
    decodeI w = .andiEncoding (rdField w) (rs1Field w) (immIField w) := by
  simp [decodeI, hf]

/-- A word under the mask of opcode and funct3, whose match is of opcode 0010011, decodes as the row of the match's
funct3 says: the funct7 bit selects no row (R69). -/
theorem decode_of_funct3Mask_opI {w m : Word} {i : Instr} (h : w &&& 0x0000707F#32 = m)
    (hm : opcodeField m = 0b0010011#7) (hrow : funct3Field w = funct3Field m → decodeI w = i) : decode w = i := by
  obtain ⟨hop, hf⟩ := fields_of_and10 h
  exact (decode_opI (hop.trans hm)).trans (hrow hf)

end Sys2Proof

namespace Sys2Proof.Proofs

open Sys2Proof.Machine

/-- Settles O21: funct3 000 selects ADDI, which writes the sum with the extended immediate back. -/
theorem addiWritesSum : Obligations.AddiWritesSum :=
  ⟨fun _ h => decode_of_funct3Mask_opI h rfl decodeI_addi,
    fun rd rs1 imm s => writeBack_result rd (s.x rs1 + sext12 imm) s⟩

/-- Settles O22: funct3 110 selects ORI, which writes the bitwise or with the extended immediate back. -/
theorem oriWritesBitwiseOr : Obligations.OriWritesBitwiseOr :=
  ⟨fun _ h => decode_of_funct3Mask_opI h rfl decodeI_ori,
    fun rd rs1 imm s => writeBack_result rd (s.x rs1 ||| sext12 imm) s⟩

/-- Settles O23: funct3 011 selects SLTIU, which extends the immediate first and writes the unsigned comparison back. -/
theorem sltiuComparesUnsigned : Obligations.SltiuComparesUnsigned :=
  ⟨fun _ h => decode_of_funct3Mask_opI h rfl decodeI_sltiu,
    fun rd rs1 imm s => writeBack_result rd (sltuValue (s.x rs1) (sext12 imm)) s⟩

/-- Settles O24: each of the five funct3 values selects its encoding, and each encoding writes 0 back. -/
theorem otherImmediateWordsWriteZero : Obligations.OtherImmediateWordsWriteZero := by
  refine ⟨fun _ h => decode_of_funct3Mask_opI h rfl decodeI_slliEncoding,
    fun _ h => decode_of_funct3Mask_opI h rfl decodeI_sltiEncoding,
    fun _ h => decode_of_funct3Mask_opI h rfl decodeI_xoriEncoding,
    fun _ h => decode_of_funct3Mask_opI h rfl decodeI_srliSraiEncoding,
    fun _ h => decode_of_funct3Mask_opI h rfl decodeI_andiEncoding, fun rd rs1 imm s i hi => ?_⟩
  simp only [List.mem_cons, List.not_mem_nil, or_false] at hi
  obtain rfl | rfl | rfl | rfl | rfl := hi <;> exact writeBack_result rd 0#32 s

end Sys2Proof.Proofs
end

