-- ==== Sys2Proof/Proofs/LoadStore.lean ====
section
/-! PROOFS. The loads and stores: which row a word of opcode 0000011 or 0100011 selects, and the two outcomes of each
access, inside data memory and outside it (43_load_store.md R98, R101 to R103). -/

namespace Sys2Proof

/-! ### The rows of opcodes 0000011 and 0100011 (R71) -/

theorem decodeLoad_lw {w : Word} (hf : funct3Field w = 0b010#3) :
    decodeLoad w = .lw (rdField w) (rs1Field w) (immIField w) := by
  simp [decodeLoad, hf]

theorem decodeStore_sbEncoding {w : Word} (hf : funct3Field w = 0b000#3) :
    decodeStore w = .sbEncoding (rs2Field w) (rs1Field w) (immSField w) := by
  simp [decodeStore, hf]

theorem decodeStore_sh {w : Word} (hf : funct3Field w = 0b001#3) :
    decodeStore w = .sh (rs2Field w) (rs1Field w) (immSField w) := by
  simp [decodeStore, hf]

theorem decodeStore_sw {w : Word} (hf : funct3Field w = 0b010#3) :
    decodeStore w = .sw (rs2Field w) (rs1Field w) (immSField w) := by
  simp [decodeStore, hf]

theorem decodeStore_storeFunct3_011 {w : Word} (hf : funct3Field w = 0b011#3) :
    decodeStore w = .storeFunct3_011 (rs2Field w) (rs1Field w) (immSField w) := by
  simp [decodeStore, hf]

theorem decodeStore_storeFunct3_100 {w : Word} (hf : funct3Field w = 0b100#3) :
    decodeStore w = .storeFunct3_100 (rs2Field w) (rs1Field w) (immSField w) := by
  simp [decodeStore, hf]

theorem decodeStore_storeFunct3_101 {w : Word} (hf : funct3Field w = 0b101#3) :
    decodeStore w = .storeFunct3_101 (rs2Field w) (rs1Field w) (immSField w) := by
  simp [decodeStore, hf]

theorem decodeStore_storeFunct3_110 {w : Word} (hf : funct3Field w = 0b110#3) :
    decodeStore w = .storeFunct3_110 (rs2Field w) (rs1Field w) (immSField w) := by
  simp [decodeStore, hf]

theorem decodeStore_storeFunct3_111 {w : Word} (hf : funct3Field w = 0b111#3) :
    decodeStore w = .storeFunct3_111 (rs2Field w) (rs1Field w) (immSField w) := by
  simp [decodeStore, hf]

/-- A word under the mask of opcode and funct3 decodes as the rows of the match's opcode say at the match's funct3: no
other bit of the word selects a row (R71). -/
theorem decode_of_funct3Mask {w m : Word} {rows : Word → Instr} {i : Instr} (h : w &&& 0x0000707F#32 = m)
    (hop : opcodeField w = opcodeField m → decode w = rows w) (hrow : funct3Field w = funct3Field m → rows w = i) :
    decode w = i := by
  obtain ⟨hopcode, hfunct3⟩ := fields_of_and10 h
  exact (hop hopcode).trans (hrow hfunct3)

end Sys2Proof

namespace Sys2Proof.Machine

open Sys2Proof.Safety

/-! ### The end of each access, inside data memory and outside it (R40, R84) -/

theorem loadWide_result {s : State} (rd : RegIdx) {ea : Word} (h : ea.toNat + 4 ≤ s.config.dmemSize) :
    ∃ t, loadInto rd (s.loadWide ea) s = .next t ∧ RegisterResult s t rd (dataWordAt s ea.toNat) := by
  rw [loadWide_ok h]
  exact writeBack_result rd (dataWordAt s ea.toNat) s

theorem loadWide_fault {s : State} (rd : RegIdx) {ea : Word} (h : s.config.dmemSize < ea.toNat + 4) :
    loadInto rd (s.loadWide ea) s = .fault (.dataOutOfRange ea 4) := by
  rw [loadWide_error h, loadInto]

theorem storeWide_fault {s : State} {ea v : Word} (h : s.config.dmemSize < ea.toNat + 4) :
    storeInto (s.storeWide ea v) s = .fault (.dataOutOfRange ea 4) := by
  rw [storeWide_error h, storeInto]

theorem storeNarrow_fault {s : State} {ea v : Word} (h : s.config.dmemSize < ea.toNat + 2) :
    storeInto (s.storeNarrow ea v) s = .fault (.dataOutOfRange ea 2) := by
  rw [storeNarrow_error h, storeInto]

/-- The six store rows whose funct3 is neither 010 nor 001 are the narrow store of SH (R36, R103). -/
theorem exec_otherStore {rs2 rs1 : RegIdx} {imm : BitVec 12} {i : Instr}
    (hi : i ∈ ([.sbEncoding rs2 rs1 imm, .storeFunct3_011 rs2 rs1 imm, .storeFunct3_100 rs2 rs1 imm,
      .storeFunct3_101 rs2 rs1 imm, .storeFunct3_110 rs2 rs1 imm, .storeFunct3_111 rs2 rs1 imm] : List Instr))
    (s : State) : exec i s = storeInto (s.storeNarrow (s.effectiveAddress rs1 imm) (s.x rs2)) s := by
  simp only [List.mem_cons, List.not_mem_nil, or_false] at hi
  obtain rfl | rfl | rfl | rfl | rfl | rfl := hi <;> rfl

end Sys2Proof.Machine

namespace Sys2Proof.Proofs

open Sys2Proof.Machine

/-- Settles O25: funct3 010 selects LW, which is the wide load of its effective address. -/
theorem lwReadsFourBytes : Obligations.LwReadsFourBytes :=
  ⟨fun _ h => decode_of_funct3Mask h decode_opLoad decodeLoad_lw,
    fun rd _ _ _ => ⟨loadWide_result rd, loadWide_fault rd⟩⟩

/-- Settles O28: funct3 010 selects SW, which is the wide store of rs2 at its effective address. -/
theorem swWritesFourBytes : Obligations.SwWritesFourBytes :=
  ⟨fun _ h => decode_of_funct3Mask h decode_opStore decodeStore_sw,
    fun _ _ _ _ hcanonical => ⟨storeWide_result hcanonical, storeWide_fault⟩⟩

/-- Settles O29: funct3 001 selects SH, which is the narrow store of rs2 at its effective address. -/
theorem shWritesTwoBytes : Obligations.ShWritesTwoBytes :=
  ⟨fun _ h => decode_of_funct3Mask h decode_opStore decodeStore_sh,
    fun _ _ _ _ hcanonical => ⟨storeNarrow_result hcanonical, storeNarrow_fault⟩⟩

/-- Settles O30: each of the six funct3 values selects its row, and each row is the narrow store. -/
theorem otherStoresWriteTwoBytes : Obligations.OtherStoresWriteTwoBytes := by
  refine ⟨fun _ h => decode_of_funct3Mask h decode_opStore decodeStore_sbEncoding,
    fun _ h => decode_of_funct3Mask h decode_opStore decodeStore_storeFunct3_011,
    fun _ h => decode_of_funct3Mask h decode_opStore decodeStore_storeFunct3_100,
    fun _ h => decode_of_funct3Mask h decode_opStore decodeStore_storeFunct3_101,
    fun _ h => decode_of_funct3Mask h decode_opStore decodeStore_storeFunct3_110,
    fun _ h => decode_of_funct3Mask h decode_opStore decodeStore_storeFunct3_111,
    fun rs2 rs1 imm s i hcanonical hi => ?_⟩
  rw [exec_otherStore hi]
  exact ⟨storeNarrow_result hcanonical, storeNarrow_fault⟩

end Sys2Proof.Proofs
end

