-- ==== Sys2Proof/Proofs/ControlTransfer.lean ====
section
/-! PROOFS. The branches: which row a word of opcode 1100011 selects, and the next pc that every row shares
(44_control_transfer.md R104, R105). -/

namespace Sys2Proof

/-! ### The rows of opcode 1100011 (R71) -/

theorem decodeBranch_beqEncoding {w : Word} (hf : funct3Field w = 0b000#3) :
    decodeBranch w = .beqEncoding (rs1Field w) (rs2Field w) (immBField w) := by
  simp [decodeBranch, hf]

theorem decodeBranch_bne {w : Word} (hf : funct3Field w = 0b001#3) :
    decodeBranch w = .bne (rs1Field w) (rs2Field w) (immBField w) := by
  simp [decodeBranch, hf]

theorem decodeBranch_branchFunct3_010 {w : Word} (hf : funct3Field w = 0b010#3) :
    decodeBranch w = .branchFunct3_010 (rs1Field w) (rs2Field w) (immBField w) := by
  simp [decodeBranch, hf]

theorem decodeBranch_branchFunct3_011 {w : Word} (hf : funct3Field w = 0b011#3) :
    decodeBranch w = .branchFunct3_011 (rs1Field w) (rs2Field w) (immBField w) := by
  simp [decodeBranch, hf]

theorem decodeBranch_bltEncoding {w : Word} (hf : funct3Field w = 0b100#3) :
    decodeBranch w = .bltEncoding (rs1Field w) (rs2Field w) (immBField w) := by
  simp [decodeBranch, hf]

theorem decodeBranch_bgeEncoding {w : Word} (hf : funct3Field w = 0b101#3) :
    decodeBranch w = .bgeEncoding (rs1Field w) (rs2Field w) (immBField w) := by
  simp [decodeBranch, hf]

theorem decodeBranch_bltuEncoding {w : Word} (hf : funct3Field w = 0b110#3) :
    decodeBranch w = .bltuEncoding (rs1Field w) (rs2Field w) (immBField w) := by
  simp [decodeBranch, hf]

theorem decodeBranch_bgeuEncoding {w : Word} (hf : funct3Field w = 0b111#3) :
    decodeBranch w = .bgeuEncoding (rs1Field w) (rs2Field w) (immBField w) := by
  simp [decodeBranch, hf]

end Sys2Proof

namespace Sys2Proof.Machine

open Sys2Proof.Safety

/-! ### The one meaning of the eight rows -/

/-- The seven branch rows whose funct3 is not 001 execute as BNE (R105). -/
theorem exec_otherBranch {rs1 rs2 : RegIdx} {offset : BitVec 13} {i : Instr}
    (hi : i ∈ ([.beqEncoding rs1 rs2 offset, .branchFunct3_010 rs1 rs2 offset, .branchFunct3_011 rs1 rs2 offset,
      .bltEncoding rs1 rs2 offset, .bgeEncoding rs1 rs2 offset, .bltuEncoding rs1 rs2 offset,
      .bgeuEncoding rs1 rs2 offset] : List Instr))
    (s : State) : exec i s = exec (.bne rs1 rs2 offset) s := by
  simp only [List.mem_cons, List.not_mem_nil, or_false] at hi
  obtain rfl | rfl | rfl | rfl | rfl | rfl | rfl := hi <;> rfl

/-- BNE completes, and only the pc moves: past the word when the operands agree, else by the offset (R81, R104). -/
theorem exec_bne_result (rs1 rs2 : RegIdx) (offset : BitVec 13) (s : State) :
    ∃ t, exec (.bne rs1 rs2 offset) s = .next t ∧
      PcResult s t (if s.x rs1 = s.x rs2 then s.pc + 4#32 else s.pc + offset.signExtend 32) := by
  rw [← branchTarget_eq]
  exact branchIfDiffer_result rs1 rs2 offset s

end Sys2Proof.Machine

namespace Sys2Proof.Proofs

open Sys2Proof.Machine

/-- Settles O31: funct3 001 selects BNE, whose target is decided by the equality of its operands. -/
theorem bneBranchesWhenOperandsDiffer : Obligations.BneBranchesWhenOperandsDiffer :=
  ⟨fun _ h => decode_of_funct3Mask h decode_opBranch decodeBranch_bne, exec_bne_result⟩

/-- Settles O32: each of the seven funct3 values selects its row, and each row executes as BNE. -/
theorem otherBranchesBehaveAsBne : Obligations.OtherBranchesBehaveAsBne := by
  refine ⟨fun _ h => decode_of_funct3Mask h decode_opBranch decodeBranch_beqEncoding,
    fun _ h => decode_of_funct3Mask h decode_opBranch decodeBranch_branchFunct3_010,
    fun _ h => decode_of_funct3Mask h decode_opBranch decodeBranch_branchFunct3_011,
    fun _ h => decode_of_funct3Mask h decode_opBranch decodeBranch_bltEncoding,
    fun _ h => decode_of_funct3Mask h decode_opBranch decodeBranch_bgeEncoding,
    fun _ h => decode_of_funct3Mask h decode_opBranch decodeBranch_bltuEncoding,
    fun _ h => decode_of_funct3Mask h decode_opBranch decodeBranch_bgeuEncoding,
    fun rs1 rs2 offset s i hi => ?_⟩
  rw [exec_otherBranch hi]
  exact exec_bne_result rs1 rs2 offset s

end Sys2Proof.Proofs
end

