-- ==== Sys2Proof/Proofs/UpperImmediate.lean ====
section
/-! PROOFS. LUI: its opcode alone selects it, and it is one register write that reads no register
(45_upper_immediate.md R107). -/

namespace Sys2Proof.Proofs

open Sys2Proof.Machine

/-- Settles O34: the opcode alone selects LUI, which writes the immediate above twelve zero bits back. -/
theorem luiWritesUpperImmediate : Obligations.LuiWritesUpperImmediate :=
  ⟨fun _ h => decode_opLui (opcodeField_of_and7 h), fun rd imm20 s => writeBack_result rd (upperImm imm20) s⟩

end Sys2Proof.Proofs
end

