-- ==== Sys2Proof/Proofs/Unknown.lean ====
section
/-! PROOFS. The Unknown words: an opcode outside the seven recognised ones selects the Unknown row of its own value, and
every such row only advances the pc (46_unrecognised.md R108). -/

namespace Sys2Proof

/-! ### The rows of the 121 other opcodes (R54, R71) -/

/-- Off the seven recognised opcodes, only the default of the format table is left (R54). -/
theorem ofOpcode_eq_unknown {op : BitVec 7}
    (h : op ∉ [0b0110011#7, 0b0010011#7, 0b0000011#7, 0b0100011#7, 0b1100011#7, 0b1100111#7, 0b0110111#7]) :
    Format.ofOpcode op = .Unknown := by
  by_contra hrecognised
  exact h (by simpa [hrecognised] using opcode_cases op)

/-- An Unknown row is masked by the opcode alone; `h` rules the 43 recognised rows out. -/
theorem Instr.rowMask_of_format_unknown {i : Instr} (h : i.format = .Unknown) : i.rowMask = 0x0000007F#32 := by
  cases i <;> cases h <;> rfl

/-- An Unknown opcode selects the row whose match is that opcode: one case per opcode value, of which `h` rules the
seven recognised ones out. -/
theorem decodeOpcode_rowMatch_of_unknown {op : BitVec 7} (h : Format.ofOpcode op = .Unknown) (w : Word) :
    (decodeOpcode op w).rowMatch = op.setWidth 32 := by
  revert h
  refine forall_opcode (P := fun op => Format.ofOpcode op = .Unknown →
    (decodeOpcode op w).rowMatch = op.setWidth 32) (fun n hn h => ?_) op
  interval_cases n <;> cases h <;> rfl

end Sys2Proof

namespace Sys2Proof.Proofs

open Sys2Proof.Machine

/-- Settles O35: an opcode outside the seven is of format Unknown, its row is masked by the opcode and matches it, and
every instruction of that format executes as the advance of the pc. -/
theorem unknownWordsOnlyAdvance : Obligations.UnknownWordsOnlyAdvance := by
  refine ⟨fun w hop => ?_, fun i s hformat => ?_⟩
  · have hopcode := ofOpcode_eq_unknown hop
    have hformat := (decode_format w).trans hopcode
    exact ⟨hformat, Instr.rowMask_of_format_unknown hformat, decodeOpcode_rowMatch_of_unknown hopcode w⟩
  · rw [exec_unknown hformat]
    exact advance_result s

end Sys2Proof.Proofs
end

