-- ==== Sys2Proof/Proofs/Decoding.lean ====
section
/-! PROOFS. Decoding and encoding: the round trip from an instruction and from a word, the row a word selects, and the
decoding of byte sequences (30_encoding.md sections 1, 2 and 6). -/

namespace Sys2Proof

/-! ### From an instruction to its word and back -/

theorem decode_encode {i : Instr} (h : i.wf = true) : decode (encode i) = i := by
  cases i with
  | add | sub | sllEncoding | sltEncoding | sltuEncoding | xorEncoding | sra | or | and =>
    simp [encode, decode_opR, decodeR]
  | addi | slliEncoding | sltiEncoding | sltiu | xoriEncoding | srliSraiEncoding | ori | andiEncoding =>
    simp [encode, decode_opI, decodeI]
  | lbEncoding | lhEncoding | lw | loadFunct3_011 | lbu | lhuEncoding | loadFunct3_110 | loadFunct3_111 =>
    simp [encode, decode_opLoad, decodeLoad]
  | sbEncoding | sh | sw | storeFunct3_011 | storeFunct3_100 | storeFunct3_101 | storeFunct3_110 | storeFunct3_111 =>
    simp [encode, decode_opStore, decodeStore]
  | beqEncoding | bne | branchFunct3_010 | branchFunct3_011 | bltEncoding | bgeEncoding | bltuEncoding | bgeuEncoding =>
    simp [encode, decode_opBranch, decodeBranch, immBField_encodeB _ _ _ _ h]
  | jalr => simp [encode, decode_opJalr]
  | lui => simp [encode, decode_opLui]
  | _ => exact decode_of_opcode (opcodeField_encodeUnknown _)

/-! ### From a word to its instruction and back: a word is its fields, in their places (R51, R53) -/

/-- Words of one opcode are equal if they agree on the 25 bits above it. -/
theorem eq_of_opcodeField_eq {u w : Word} (hop : opcodeField u = opcodeField w)
    (hbits : ∀ i, 7 ≤ i → i < 32 → u.getLsbD i = w.getLsbD i) : u = w := by
  apply BitVec.eq_of_getLsbD_eq
  intro i hi
  by_cases hlow : i < 7
  · simpa [opcodeField, hlow] using congrArg (fun op => op.getLsbD i) hop
  · exact hbits i (by omega) hi

/-- A mask that keeps the low seven bits keeps the opcode. -/
theorem opcodeField_and (w : Word) {m : Word} (hm : opcodeField m = 0x7F#7) :
    opcodeField (w &&& m) = opcodeField w := by
  have hfields : opcodeField (w &&& m) = opcodeField w &&& opcodeField m := BitVec.extractLsb'_and
  rw [hfields, hm]
  exact BitVec.and_allOnes

/-- The fields an R word is decoded to, with bit 30 as it was, leave out bits 31 and 29:25 (R52). -/
theorem encodeR_fields_keepBit30 {w : Word} (h : opcodeField w = 0b0110011#7) :
    encodeR (funct7Bit w) (funct3Field w) (rdField w) (rs1Field w) (rs2Field w) = w &&& 0x41FFFFFF#32 := by
  refine eq_of_opcodeField_eq (by rw [opcodeField_encodeR, opcodeField_and w rfl, h]) fun i hlow hi => ?_
  rw [getLsbD_encodeR _ _ _ _ _ hi]
  simp only [funct7Bit, funct3Field, rdField, rs1Field, rs2Field]
  interval_cases i <;> simp

/-- With bit 30 cleared, they leave out bits 31:25. -/
theorem encodeR_fields {w : Word} (h : opcodeField w = 0b0110011#7) :
    encodeR false (funct3Field w) (rdField w) (rs1Field w) (rs2Field w) = w &&& 0x01FFFFFF#32 := by
  refine eq_of_opcodeField_eq (by rw [opcodeField_encodeR, opcodeField_and w rfl, h]) fun i hlow hi => ?_
  rw [getLsbD_encodeR _ _ _ _ _ hi]
  simp only [funct3Field, rdField, rs1Field, rs2Field]
  interval_cases i <;> simp

theorem encodeI_fields {w : Word} {op : BitVec 7} (h : opcodeField w = op) :
    encodeI op (funct3Field w) (rdField w) (rs1Field w) (immIField w) = w := by
  refine eq_of_opcodeField_eq (by rw [opcodeField_encodeI, h]) fun i hlow hi => ?_
  rw [getLsbD_encodeI _ _ _ _ _ hi]
  simp only [funct3Field, rdField, rs1Field, immIField]
  interval_cases i <;> simp

theorem encodeI_fields_clearFunct3 {w : Word} {op : BitVec 7} (h : opcodeField w = op) :
    encodeI op 0b000#3 (rdField w) (rs1Field w) (immIField w) = w &&& 0xFFFF8FFF#32 := by
  refine eq_of_opcodeField_eq (by rw [opcodeField_encodeI, opcodeField_and w rfl, h]) fun i hlow hi => ?_
  rw [getLsbD_encodeI _ _ _ _ _ hi]
  simp only [rdField, rs1Field, immIField]
  interval_cases i <;> simp

theorem encodeS_fields {w : Word} (h : opcodeField w = 0b0100011#7) :
    encodeS (funct3Field w) (rs2Field w) (rs1Field w) (immSField w) = w := by
  refine eq_of_opcodeField_eq (by rw [opcodeField_encodeS, h]) fun i hlow hi => ?_
  rw [getLsbD_encodeS _ _ _ _ hi]
  simp only [funct3Field, rs1Field, rs2Field, immSField, BitVec.getLsbD_append]
  interval_cases i <;> simp

theorem encodeB_fields {w : Word} (h : opcodeField w = 0b1100011#7) :
    encodeB (funct3Field w) (rs1Field w) (rs2Field w) (immBField w) = w := by
  refine eq_of_opcodeField_eq (by rw [opcodeField_encodeB, h]) fun i hlow hi => ?_
  rw [getLsbD_encodeB _ _ _ _ hi]
  simp only [funct3Field, rs1Field, rs2Field, immBField, BitVec.getLsbD_append]
  interval_cases i <;> simp

theorem encodeU_fields {w : Word} (h : opcodeField w = 0b0110111#7) : encodeU (rdField w) (immUField w) = w := by
  refine eq_of_opcodeField_eq (by rw [opcodeField_encodeU, h]) fun i hlow hi => ?_
  rw [getLsbD_encodeU _ _ hi]
  simp only [rdField, immUField]
  interval_cases i <;> simp

/-! ### What each opcode's words are encoded back to -/

/-- A word of an Unknown opcode is encoded back as its opcode alone: one case per opcode value, of which `h` rules the
seven recognised ones out. -/
theorem encode_decodeOpcode_of_unknown {op : BitVec 7} (h : Format.ofOpcode op = .Unknown) (w : Word) :
    encode (decodeOpcode op w) = op.setWidth 32 := by
  revert h
  refine forall_opcode (P := fun op => Format.ofOpcode op = .Unknown →
    encode (decodeOpcode op w) = op.setWidth 32) (fun n hn h => ?_) op
  interval_cases n <;> cases h <;> rfl

theorem encode_decode_opR {w : Word} (h : opcodeField w = 0b0110011#7) :
    encode (decode w) = w &&& if funct3Field w = 0b000#3 then 0x41FFFFFF#32 else 0x01FFFFFF#32 := by
  rw [decode_opR h]
  by_cases hzero : funct3Field w = 0b000#3
  · rw [if_pos hzero, ← encodeR_fields_keepBit30 h, hzero, decodeR_funct3_000 hzero]
    cases funct7Bit w <;> rfl
  · rw [if_neg hzero, ← encodeR_fields h]
    obtain hf | hf | hf | hf | hf | hf | hf | hf := funct3_cases (funct3Field w)
    · exact absurd hf hzero
    all_goals
      rw [decodeR, hf]
      rfl

theorem encode_decode_opI {w : Word} (h : opcodeField w = 0b0010011#7) : encode (decode w) = w := by
  rw [decode_opI h]
  refine Eq.trans ?_ (encodeI_fields h)
  obtain hf | hf | hf | hf | hf | hf | hf | hf := funct3_cases (funct3Field w) <;> rw [decodeI, hf] <;> rfl

theorem encode_decode_opLoad {w : Word} (h : opcodeField w = 0b0000011#7) : encode (decode w) = w := by
  rw [decode_opLoad h]
  refine Eq.trans ?_ (encodeI_fields h)
  obtain hf | hf | hf | hf | hf | hf | hf | hf := funct3_cases (funct3Field w) <;> rw [decodeLoad, hf] <;> rfl

theorem encode_decode_opStore {w : Word} (h : opcodeField w = 0b0100011#7) : encode (decode w) = w := by
  rw [decode_opStore h]
  refine Eq.trans ?_ (encodeS_fields h)
  obtain hf | hf | hf | hf | hf | hf | hf | hf := funct3_cases (funct3Field w) <;> rw [decodeStore, hf] <;> rfl

theorem encode_decode_opBranch {w : Word} (h : opcodeField w = 0b1100011#7) : encode (decode w) = w := by
  rw [decode_opBranch h]
  refine Eq.trans ?_ (encodeB_fields h)
  obtain hf | hf | hf | hf | hf | hf | hf | hf := funct3_cases (funct3Field w) <;> rw [decodeBranch, hf] <;> rfl

theorem encode_decode_opJalr {w : Word} (h : opcodeField w = 0b1100111#7) :
    encode (decode w) = w &&& 0xFFFF8FFF#32 := by
  rw [decode_opJalr h, ← encodeI_fields_clearFunct3 h]
  rfl

theorem encode_decode_opLui {w : Word} (h : opcodeField w = 0b0110111#7) : encode (decode w) = w := by
  rw [decode_opLui h]
  exact encodeU_fields h

/-- Bit 0 of a B immediate has no place in the word, and is decoded as 0 (R59). -/
theorem evenOffset_immBField (w : Word) : evenOffset (immBField w) = true := by
  have hbit : (immBField w)[0] = false := by
    rw [immBField, BitVec.getElem_append]
    rfl
  rw [evenOffset, hbit]
  rfl

/-- Only a branch offset is constrained; `h` rules the eight branch rows out. -/
theorem Instr.wf_of_format_ne_B {i : Instr} (h : i.format ≠ .B) : i.wf = true := by
  cases i with
  | beqEncoding | bne | branchFunct3_010 | branchFunct3_011 | bltEncoding | bgeEncoding | bltuEncoding | bgeuEncoding =>
    exact absurd rfl h
  | _ => rfl

theorem decodeBranch_wf (w : Word) : (decodeBranch w).wf = true := by
  unfold decodeBranch
  split <;> exact evenOffset_immBField w

/-- Every word decodes to a well-formed instruction (R72). -/
theorem decode_wf (w : Word) : (decode w).wf = true := by
  by_cases hop : opcodeField w = 0b1100011#7
  · rw [decode_opBranch hop]
    exact decodeBranch_wf w
  · refine Instr.wf_of_format_ne_B ?_
    rw [decode_format]
    obtain h | h | h | h | h | h | h | h := opcode_cases (opcodeField w)
    on_goal 5 => exact absurd h hop
    all_goals rw [h]; decide

/-! ### The row a word selects (R71) -/

theorem and_funct3Mask_eq {w : Word} {op : BitVec 7} {f : BitVec 3} (hop : opcodeField w = op) (hf : funct3Field w = f) :
    w &&& 0x0000707F#32 = (f.setWidth 32 <<< 12) ||| op.setWidth 32 := by
  rw [and_funct3Mask, hop, hf]

theorem and_opcodeMask_eq {w : Word} {op : BitVec 7} (hop : opcodeField w = op) :
    w &&& 0x0000007F#32 = op.setWidth 32 := by
  rw [and_opcodeMask, hop]

theorem and_bit30Mask_eq {w : Word} {op : BitVec 7} {f : BitVec 3} {b : Bool} (hop : opcodeField w = op)
    (hf : funct3Field w = f) (hb : funct7Bit w = b) :
    w &&& 0x4000707F#32 = ((BitVec.ofBool b).setWidth 32 <<< 30) ||| ((f.setWidth 32 <<< 12) ||| op.setWidth 32) := by
  rw [and_bit30Mask, hop, hf, hb]

/-- `w` selects the row of `i`: under the row's mask it is the row's match. -/
def SelectsRow (w : Word) (i : Instr) : Prop := w &&& i.rowMask = i.rowMatch

theorem decodeR_selectsRow {w : Word} (h : opcodeField w = 0b0110011#7) : SelectsRow w (decodeR w) := by
  obtain hf | hf | hf | hf | hf | hf | hf | hf := funct3_cases (funct3Field w)
  · rw [decodeR_funct3_000 hf]
    cases hb : funct7Bit w <;> exact and_bit30Mask_eq h hf hb
  all_goals
    rw [decodeR, hf]
    exact and_funct3Mask_eq h hf

theorem decodeI_selectsRow {w : Word} (h : opcodeField w = 0b0010011#7) : SelectsRow w (decodeI w) := by
  obtain hf | hf | hf | hf | hf | hf | hf | hf := funct3_cases (funct3Field w) <;> rw [decodeI, hf] <;>
    exact and_funct3Mask_eq h hf

theorem decodeLoad_selectsRow {w : Word} (h : opcodeField w = 0b0000011#7) : SelectsRow w (decodeLoad w) := by
  obtain hf | hf | hf | hf | hf | hf | hf | hf := funct3_cases (funct3Field w) <;> rw [decodeLoad, hf] <;>
    exact and_funct3Mask_eq h hf

theorem decodeStore_selectsRow {w : Word} (h : opcodeField w = 0b0100011#7) : SelectsRow w (decodeStore w) := by
  obtain hf | hf | hf | hf | hf | hf | hf | hf := funct3_cases (funct3Field w) <;> rw [decodeStore, hf] <;>
    exact and_funct3Mask_eq h hf

theorem decodeBranch_selectsRow {w : Word} (h : opcodeField w = 0b1100011#7) : SelectsRow w (decodeBranch w) := by
  obtain hf | hf | hf | hf | hf | hf | hf | hf := funct3_cases (funct3Field w) <;> rw [decodeBranch, hf] <;>
    exact and_funct3Mask_eq h hf

theorem decode_selectsRow (w : Word) : SelectsRow w (decode w) := by
  obtain h | h | h | h | h | h | h | h := opcode_cases (opcodeField w)
  · rw [decode_opR h]; exact decodeR_selectsRow h
  · rw [decode_opI h]; exact decodeI_selectsRow h
  · rw [decode_opLoad h]; exact decodeLoad_selectsRow h
  · rw [decode_opStore h]; exact decodeStore_selectsRow h
  · rw [decode_opBranch h]; exact decodeBranch_selectsRow h
  · rw [decode_opJalr h]; exact and_opcodeMask_eq h
  · rw [decode_opLui h]; exact and_opcodeMask_eq h
  · have hformat := (decode_format w).trans h
    rw [SelectsRow, Instr.rowMask_of_format_unknown hformat, decode, decodeOpcode_rowMatch_of_unknown h]
    exact and_opcodeMask w

/-- A word that selects the row of `j` decodes to an instruction of that row. -/
theorem row_decode_of_selectsRow {w : Word} {j : Instr} (h : SelectsRow w j) :
    (decode w).rowMask = j.rowMask ∧ (decode w).rowMatch = j.rowMatch := by
  rw [SelectsRow] at h
  cases j with
  | add | sub =>
    simp only [Instr.rowMask, Instr.rowMatch] at h
    obtain ⟨hop, hf, hb⟩ := fields_of_and11 h
    rw [decode_opR hop, decodeR_funct3_000 hf, hb]
    exact ⟨rfl, rfl⟩
  | sllEncoding | sltEncoding | sltuEncoding | xorEncoding | sra | or | and =>
    simp only [Instr.rowMask, Instr.rowMatch] at h
    obtain ⟨hop, hf⟩ := fields_of_and10 h
    rw [decode_opR hop, decodeR, hf]
    exact ⟨rfl, rfl⟩
  | addi | slliEncoding | sltiEncoding | sltiu | xoriEncoding | srliSraiEncoding | ori | andiEncoding =>
    simp only [Instr.rowMask, Instr.rowMatch] at h
    obtain ⟨hop, hf⟩ := fields_of_and10 h
    rw [decode_opI hop, decodeI, hf]
    exact ⟨rfl, rfl⟩
  | lbEncoding | lhEncoding | lw | loadFunct3_011 | lbu | lhuEncoding | loadFunct3_110 | loadFunct3_111 =>
    simp only [Instr.rowMask, Instr.rowMatch] at h
    obtain ⟨hop, hf⟩ := fields_of_and10 h
    rw [decode_opLoad hop, decodeLoad, hf]
    exact ⟨rfl, rfl⟩
  | sbEncoding | sh | sw | storeFunct3_011 | storeFunct3_100 | storeFunct3_101 | storeFunct3_110 | storeFunct3_111 =>
    simp only [Instr.rowMask, Instr.rowMatch] at h
    obtain ⟨hop, hf⟩ := fields_of_and10 h
    rw [decode_opStore hop, decodeStore, hf]
    exact ⟨rfl, rfl⟩
  | beqEncoding | bne | branchFunct3_010 | branchFunct3_011 | bltEncoding | bgeEncoding | bltuEncoding | bgeuEncoding =>
    simp only [Instr.rowMask, Instr.rowMatch] at h
    obtain ⟨hop, hf⟩ := fields_of_and10 h
    rw [decode_opBranch hop, decodeBranch, hf]
    exact ⟨rfl, rfl⟩
  | _ =>
    simp only [Instr.rowMask, Instr.rowMatch] at h
    rw [decode_of_opcode (opcodeField_of_and7 h)]
    exact ⟨rfl, rfl⟩

end Sys2Proof

namespace Sys2Proof.Proofs

open Sys2Proof.Machine

/-- Settles O1: the word decodes back by cases of the instruction, and its four bytes form that word. -/
theorem encodedInstructionDecodesToItself : Obligations.EncodedInstructionDecodesToItself := by
  intro i hwf
  refine ⟨decode_encode hwf, fun rest => ?_⟩
  rw [encodeBytes, decodeBytes_bytesOfWord, decode_encode hwf]

/-- Settles O2: by cases of the opcode, each of which fixes the format and the fields that are encoded back. -/
theorem encodeOfDecodeKeepsInterpretedBits : Obligations.EncodeOfDecodeKeepsInterpretedBits := by
  intro w
  refine ⟨decode_wf w, ?_⟩
  have whole : w = w &&& 0xFFFFFFFF#32 := BitVec.and_allOnes.symm
  rw [decode_format]
  obtain h | h | h | h | h | h | h | h := opcode_cases (opcodeField w)
  · rw [h]
    exact encode_decode_opR h
  · rw [h, encode_decode_opI h]
    exact whole
  · rw [h, encode_decode_opLoad h]
    exact whole
  · rw [h, encode_decode_opStore h]
    exact whole
  · rw [h, encode_decode_opBranch h]
    exact whole
  · rw [h]
    exact encode_decode_opJalr h
  · rw [h, encode_decode_opLui h]
    exact whole
  · rw [h, decode, encode_decodeOpcode_of_unknown h]
    exact (and_opcodeMask w).symm

/-- Settles O3: the word selects the row of what it decodes to, and any row it selects is that one. -/
theorem everyWordSelectsExactlyOneRow : Obligations.EveryWordSelectsExactlyOneRow := by
  intro w
  refine ⟨decode_selectsRow w, fun j hj => ?_⟩
  obtain ⟨hmask, hmatch⟩ := row_decode_of_selectsRow hj
  exact ⟨hmask.symm, hmatch.symm⟩

/-- Settles O4: each word is fixed, and the decoder computes. -/
theorem wordsOfTheManualDecode : Obligations.WordsOfTheManualDecode :=
  ⟨rfl, rfl, rfl, rfl, rfl, rfl, rfl, rfl⟩

/-- Settles O5: four bytes are the decoder's first case, and a sequence of each shorter length its other one. -/
theorem bytesDecodeFourAtATime : Obligations.BytesDecodeFourAtATime := by
  refine ⟨fun _ _ _ _ _ => rfl, fun bs hshort => ?_⟩
  match bs with
  | [] | [_] | [_, _] | [_, _, _] => rfl
  | _ :: _ :: _ :: _ :: rest =>
    simp only [List.length_cons] at hshort
    omega

end Sys2Proof.Proofs
end

