-- ==== Sys2Proof/Proofs/Datapath.lean ====
section
/-! PROOFS. What a word does, opcode by opcode, read twice: through the instruction it decodes to and through its control
signals (30_encoding.md sections 4 and 5, 40_datapath.md). -/

namespace Sys2Proof.Machine

/-! ### A word through its instruction -/

section Meaning

variable {w : Word} (s : State)

theorem exec_decode_opR (h : opcodeField w = 0b0110011#7) :
    exec (decode w) s = writeBack (rdField w) (Datapath.aluResult (s.x (rs1Field w)) (s.x (rs2Field w))
      (Datapath.aluControl s.config.addUsesBit30 0b10#2 (funct3Field w) (funct7Bit w)) false) s := by
  rw [decode_opR h]
  obtain hf | hf | hf | hf | hf | hf | hf | hf := funct3_cases (funct3Field w)
  · rw [decodeR_funct3_000 hf, hf]
    cases funct7Bit w with
    | true => simp [exec, execSub, Datapath.aluControl, Datapath.aluResult]
    | false => cases hswitch : s.config.addUsesBit30 <;> simp [exec, execAdd, Datapath.aluControl, Datapath.aluResult, hswitch]
  all_goals
    rw [decodeR, hf]
    rfl

theorem exec_decode_opI (h : opcodeField w = 0b0010011#7) :
    exec (decode w) s = writeBack (rdField w) (Datapath.aluResult (s.x (rs1Field w)) (sext12 (immIField w))
      (Datapath.aluControl s.config.addUsesBit30 0b11#2 (funct3Field w) (funct7Bit w)) false) s := by
  rw [decode_opI h]
  obtain hf | hf | hf | hf | hf | hf | hf | hf := funct3_cases (funct3Field w) <;> rw [decodeI, hf] <;> rfl

theorem exec_decode_opLoad (h : opcodeField w = 0b0000011#7) :
    exec (decode w) s = loadInto (rdField w)
      (if funct3Field w = 0b010#3 then s.loadWide (s.effectiveAddress (rs1Field w) (immIField w))
        else s.loadNarrow (s.effectiveAddress (rs1Field w) (immIField w))) s := by
  rw [decode_opLoad h]
  obtain hf | hf | hf | hf | hf | hf | hf | hf := funct3_cases (funct3Field w) <;> rw [decodeLoad, hf] <;> rfl

theorem exec_decode_opStore (h : opcodeField w = 0b0100011#7) :
    exec (decode w) s = storeInto
      (if funct3Field w = 0b010#3
        then s.storeWide (s.effectiveAddress (rs1Field w) (immSField w)) (s.x (rs2Field w))
        else s.storeNarrow (s.effectiveAddress (rs1Field w) (immSField w)) (s.x (rs2Field w))) s := by
  rw [decode_opStore h]
  obtain hf | hf | hf | hf | hf | hf | hf | hf := funct3_cases (funct3Field w) <;> rw [decodeStore, hf] <;> rfl

theorem exec_decode_opBranch (h : opcodeField w = 0b1100011#7) :
    exec (decode w) s = branchIfDiffer (rs1Field w) (rs2Field w) (immBField w) s := by
  rw [decode_opBranch h]
  obtain hf | hf | hf | hf | hf | hf | hf | hf := funct3_cases (funct3Field w) <;> rw [decodeBranch, hf] <;> rfl

theorem exec_decode_opJalr (h : opcodeField w = 0b1100111#7) :
    exec (decode w) s = execJalr (rdField w) (rs1Field w) (immIField w) s := by
  rw [decode_opJalr h, exec]

theorem exec_decode_opLui (h : opcodeField w = 0b0110111#7) :
    exec (decode w) s = writeBack (rdField w) (upperImm (immUField w)) s := by
  rw [decode_opLui h, exec, execLui]

theorem exec_decode_unknown (h : Format.ofOpcode (opcodeField w) = .Unknown) : exec (decode w) s = advance s :=
  exec_unknown ((decode_format w).trans h) s

/-! ### A word through its control signals -/

theorem execWord_opR (h : opcodeField w = 0b0110011#7) :
    Datapath.execWord w s = writeBack (rdField w) (Datapath.aluResult (s.x (rs1Field w)) (s.x (rs2Field w))
      (Datapath.aluControl s.config.addUsesBit30 0b10#2 (funct3Field w) (funct7Bit w)) false) s := by
  rw [Datapath.execWord, h]
  rfl

theorem execWord_opI (h : opcodeField w = 0b0010011#7) :
    Datapath.execWord w s = writeBack (rdField w) (Datapath.aluResult (s.x (rs1Field w)) (sext12 (immIField w))
      (Datapath.aluControl s.config.addUsesBit30 0b11#2 (funct3Field w) (funct7Bit w)) false) s := by
  rw [Datapath.execWord, h]
  rfl

theorem execWord_opLoad (h : opcodeField w = 0b0000011#7) :
    Datapath.execWord w s = loadInto (rdField w)
      (if funct3Field w = 0b010#3 then s.loadWide (s.effectiveAddress (rs1Field w) (immIField w))
        else s.loadNarrow (s.effectiveAddress (rs1Field w) (immIField w))) s := by
  have hcontrol : Datapath.control 0b0000011#7 =
      { Datapath.Bundle.default with memRead := true, memToReg := true, aluSrc := true, regWrite := true } := rfl
  have haddress : (Datapath.alu (s.x (rs1Field w)) (Datapath.immGen w (Format.ofOpcode 0b0000011#7)) .Add false).1 =
      s.effectiveAddress (rs1Field w) (immIField w) := rfl
  simp only [Datapath.execWord, h, hcontrol, Datapath.Bundle.default, Datapath.aluControl, Datapath.dataRead,
    Datapath.dataWrite, Bool.not_true, Bool.not_false, Bool.false_eq_true, if_true, if_false, haddress]
  generalize (if funct3Field w = 0b010#3 then s.loadWide _ else _) = access
  cases access <;> rfl

theorem execWord_opStore (h : opcodeField w = 0b0100011#7) :
    Datapath.execWord w s = storeInto
      (if funct3Field w = 0b010#3
        then s.storeWide (s.effectiveAddress (rs1Field w) (immSField w)) (s.x (rs2Field w))
        else s.storeNarrow (s.effectiveAddress (rs1Field w) (immSField w)) (s.x (rs2Field w))) s := by
  have hcontrol : Datapath.control 0b0100011#7 =
      { Datapath.Bundle.default with memWrite := true, aluSrc := true } := rfl
  have haddress : (Datapath.alu (s.x (rs1Field w)) (Datapath.immGen w (Format.ofOpcode 0b0100011#7)) .Add false).1 =
      s.effectiveAddress (rs1Field w) (immSField w) := rfl
  simp only [Datapath.execWord, h, hcontrol, Datapath.Bundle.default, Datapath.aluControl, Datapath.dataRead,
    Datapath.dataWrite, Bool.not_true, Bool.not_false, Bool.false_eq_true, if_true, if_false, haddress]
  generalize (if funct3Field w = 0b010#3 then s.storeWide _ _ else _) = access
  cases access <;> rfl

/-- With the branch signal alone set, the zero flag chooses the next pc (R81). -/
theorem nextPc_branch (pc imm a : Word) (zero : Bool) :
    Datapath.nextPc pc imm a true zero false = if zero then pc + 4#32 else pc + imm := by
  cases zero <;> rfl

theorem execWord_opBranch (h : opcodeField w = 0b1100011#7) :
    Datapath.execWord w s = branchIfDiffer (rs1Field w) (rs2Field w) (immBField w) s := by
  rw [Datapath.execWord, h]
  exact congrArg (fun target => Host.Outcome.next (s.setPc target)) (nextPc_branch ..)

theorem execWord_opJalr (h : opcodeField w = 0b1100111#7) :
    Datapath.execWord w s = execJalr (rdField w) (rs1Field w) (immIField w) s := by
  rw [Datapath.execWord, h]
  rfl

theorem execWord_opLui (h : opcodeField w = 0b0110111#7) :
    Datapath.execWord w s = writeBack (rdField w) (upperImm (immUField w)) s := by
  rw [Datapath.execWord, h]
  rfl

/-- Off the seven rows of the Controller table, every signal is 0 (R63). -/
theorem control_of_unknown {op : BitVec 7} (h : Format.ofOpcode op = .Unknown) :
    Datapath.control op = Datapath.Bundle.default := by
  revert h
  refine forall_opcode (P := fun op => Format.ofOpcode op = .Unknown →
    Datapath.control op = Datapath.Bundle.default) (fun n hn h => ?_) op
  interval_cases n <;> cases h <;> rfl

theorem execWord_unknown (h : Format.ofOpcode (opcodeField w) = .Unknown) : Datapath.execWord w s = advance s := by
  rw [Datapath.execWord, control_of_unknown h]
  rfl

end Meaning

/-- The instruction a word decodes to does what the datapath does under the word's control signals (R83). -/
theorem exec_decode_eq_execWord (w : Word) (s : State) : exec (decode w) s = Datapath.execWord w s := by
  obtain h | h | h | h | h | h | h | h := opcode_cases (opcodeField w)
  · rw [exec_decode_opR s h, execWord_opR s h]
  · rw [exec_decode_opI s h, execWord_opI s h]
  · rw [exec_decode_opLoad s h, execWord_opLoad s h]
  · rw [exec_decode_opStore s h, execWord_opStore s h]
  · rw [exec_decode_opBranch s h, execWord_opBranch s h]
  · rw [exec_decode_opJalr s h, execWord_opJalr s h]
  · rw [exec_decode_opLui s h, execWord_opLui s h]
  · rw [exec_decode_unknown s h, execWord_unknown s h]

/-! ### Bit 30 (R68) -/

/-- With the switch off, the ALU Control does not read bit 30. -/
theorem aluControl_switchOff (aluOp : BitVec 2) (f : BitVec 3) (b b' : Bool) :
    Datapath.aluControl false aluOp f b = Datapath.aluControl false aluOp f b' := rfl

/-- Inverting bit 30 leaves every field below it as it was. -/
theorem extractLsb'_invertBit30 (w : Word) {start len : Nat} (h : start + len ≤ 30) :
    (w ^^^ 0x40000000#32).extractLsb' start len = w.extractLsb' start len := by
  apply BitVec.eq_of_getLsbD_eq
  intro i hi
  have hbit : (0x40000000#32).getLsbD (start + i) = false := by
    rw [show 0x40000000#32 = BitVec.twoPow 32 30 from rfl, BitVec.getLsbD_twoPow]
    simp
    omega
  simp [hbit]

theorem fields_invertBit30 (w : Word) :
    opcodeField (w ^^^ 0x40000000#32) = opcodeField w ∧ funct3Field (w ^^^ 0x40000000#32) = funct3Field w ∧
    rdField (w ^^^ 0x40000000#32) = rdField w ∧ rs1Field (w ^^^ 0x40000000#32) = rs1Field w ∧
    rs2Field (w ^^^ 0x40000000#32) = rs2Field w :=
  ⟨extractLsb'_invertBit30 w (by decide), extractLsb'_invertBit30 w (by decide), extractLsb'_invertBit30 w (by decide),
    extractLsb'_invertBit30 w (by decide), extractLsb'_invertBit30 w (by decide)⟩

/-! ### The ALU as arithmetic (R77) -/

theorem zeroFlag_iff (result : Word) : zeroFlag result = true ↔ result = 0#32 := beq_iff_eq

/-- A difference modulo 2^32 (D3). -/
theorem toNat_sub_emod (a b : Word) : ((a - b).toNat : Int) = ((a.toNat : Int) - (b.toNat : Int)) % 2 ^ 32 := by
  bv_omega

theorem toNat_sltuValue (a b : Word) : (sltuValue a b).toNat = if a.toNat < b.toNat then 1 else 0 := by
  rw [sltuValue]
  split <;> rfl

end Sys2Proof.Machine

namespace Sys2Proof.Proofs

open Sys2Proof.Machine

/-- Settles O6: an R word's meaning is its fields below bit 30 and the ALU operation, which does not read bit 30. -/
theorem bitThirtyNeverReachesRType : Obligations.BitThirtyNeverReachesRType := by
  intro w s hop hswitch
  obtain ⟨hop', hfunct3, hrd, hrs1, hrs2⟩ := fields_invertBit30 w
  rw [exec_decode_opR s (hop'.trans hop), exec_decode_opR s hop, hswitch, hfunct3, hrd, hrs1, hrs2,
    aluControl_switchOff _ _ _ (funct7Bit w)]

/-- Settles O8: the seven rows compute, every other opcode is of format Unknown and takes the default row, and the ALU
Control's table is its definition. -/
theorem controlTablesOfTheSource : Obligations.ControlTablesOfTheSource := by
  refine ⟨rfl, rfl, rfl, rfl, rfl, rfl, rfl, fun op hop => control_of_unknown (ofOpcode_eq_unknown hop),
    fun switch f bit30 => ⟨rfl, rfl, ?_, rfl⟩⟩
  cases switch <;> cases bit30 <;> rfl

/-- Settles O10: both sides answer a marked state and a failed fetch alike, and a fetched word means the same to both. -/
theorem stepIsTheDatapathCycle : Obligations.StepIsTheDatapathCycle := by
  intro s
  unfold step Datapath.cycle
  cases s.faultMark with
  | some f => rfl
  | none =>
    cases fetchWord s with
    | error f => rfl
    | ok w => exact exec_decode_eq_execWord w s

/-- Settles O13: each operation is the arithmetic of its word operation. -/
theorem aluAsIntegers : Obligations.AluAsIntegers := by
  intro a b
  exact ⟨fun _ => rfl, fun _ _ => zeroFlag_iff _, BitVec.toNat_add a b, toNat_sub_emod a b,
    fun _ => BitVec.getLsbD_and, fun _ => BitVec.getLsbD_or, toInt_sraValue a b, toNat_sltuValue a b, rfl⟩

end Sys2Proof.Proofs
end

