-- ==== Sys2Proof/Proofs/Instructions.lean ====
section
/-! PROOFS. The instructions of statements left open by the families' own files: ADD, the narrow loads and JALR, and the
effective address as an integer (20_memory.md section 1, 41_register_register.md, 43_load_store.md,
44_control_transfer.md). -/

namespace Sys2Proof

/-- Of the two rows of funct3 000, bit 30 clear selects ADD. -/
theorem decode_add {w : Word} (h : w &&& 0x4000707F#32 = 0x00000033#32) :
    decode w = .add (rdField w) (rs1Field w) (rs2Field w) := by
  obtain ⟨hop, hf, hbit⟩ := fields_of_and11 h
  have hclear : funct7Bit w = false := hbit
  rw [decode_opR hop, decodeR_funct3_000 hf, hclear]
  rfl

/-! ### The narrow rows of opcode 0000011 (R71) -/

theorem decodeLoad_lbEncoding {w : Word} (hf : funct3Field w = 0b000#3) :
    decodeLoad w = .lbEncoding (rdField w) (rs1Field w) (immIField w) := by
  simp [decodeLoad, hf]

theorem decodeLoad_lhEncoding {w : Word} (hf : funct3Field w = 0b001#3) :
    decodeLoad w = .lhEncoding (rdField w) (rs1Field w) (immIField w) := by
  simp [decodeLoad, hf]

theorem decodeLoad_loadFunct3_011 {w : Word} (hf : funct3Field w = 0b011#3) :
    decodeLoad w = .loadFunct3_011 (rdField w) (rs1Field w) (immIField w) := by
  simp [decodeLoad, hf]

theorem decodeLoad_lbu {w : Word} (hf : funct3Field w = 0b100#3) :
    decodeLoad w = .lbu (rdField w) (rs1Field w) (immIField w) := by
  simp [decodeLoad, hf]

theorem decodeLoad_lhuEncoding {w : Word} (hf : funct3Field w = 0b101#3) :
    decodeLoad w = .lhuEncoding (rdField w) (rs1Field w) (immIField w) := by
  simp [decodeLoad, hf]

theorem decodeLoad_loadFunct3_110 {w : Word} (hf : funct3Field w = 0b110#3) :
    decodeLoad w = .loadFunct3_110 (rdField w) (rs1Field w) (immIField w) := by
  simp [decodeLoad, hf]

theorem decodeLoad_loadFunct3_111 {w : Word} (hf : funct3Field w = 0b111#3) :
    decodeLoad w = .loadFunct3_111 (rdField w) (rs1Field w) (immIField w) := by
  simp [decodeLoad, hf]

end Sys2Proof

namespace Sys2Proof.Machine

open Sys2Proof.Safety

/-! ### The narrow load, inside data memory and outside it (R34, R40) -/

theorem loadNarrow_result {s : State} (rd : RegIdx) {ea : Word} (h : ea.toNat + 1 ≤ s.config.dmemSize) :
    ∃ t, loadInto rd (s.loadNarrow ea) s = .next t ∧
      RegisterResult s t rd ((s.dmem.read ea.toNat).setWidth 32) := by
  rw [loadNarrow_ok h]
  exact writeBack_result rd _ s

theorem loadNarrow_fault {s : State} (rd : RegIdx) {ea : Word} (h : s.config.dmemSize < ea.toNat + 1) :
    loadInto rd (s.loadNarrow ea) s = .fault (.dataOutOfRange ea 1) := by
  rw [loadNarrow_error h, loadInto]

/-- JALR completes: the link is written back and the pc takes the target, which the write does not reach (D11). -/
theorem execJalr_result (rd rs1 : RegIdx) (imm : BitVec 12) (s : State) :
    ∃ t, execJalr rd rs1 imm s = .next t ∧ JumpResult s t rd (s.pc + 4#32) (s.effectiveAddress rs1 imm) :=
  ⟨_, rfl, s.setX_x rd s.pcPlus4, rfl, fun _ => rfl, rfl, rfl, rfl, rfl⟩

/-- The unsigned value of a word is its signed value modulo 2^32. -/
theorem toNat_eq_toInt_emod (v : Word) : (v.toNat : Int) = v.toInt % 2 ^ 32 := by
  have hlt : (v.toNat : Int) < 2 ^ 32 := by exact_mod_cast v.isLt
  calc (v.toNat : Int) = v.toNat % 2 ^ 32 := (Int.emod_eq_of_lt (by omega) hlt).symm
    _ = v.toInt % 2 ^ 32 := by
      rw [BitVec.toInt_eq_toNat_bmod]
      exact Int.bmod_emod.symm

end Sys2Proof.Machine

namespace Sys2Proof.Proofs

open Sys2Proof.Machine

/-- Settles O14: extension keeps the signed displacement, and the sum is modulo 2^32. -/
theorem effectiveAddressWrapsAsUnsigned : Obligations.EffectiveAddressWrapsAsUnsigned := by
  intro s rs1 imm
  rw [State.effectiveAddress, BitVec.toNat_add, ← toInt_sext12, Int.natCast_mod, Int.natCast_add,
    toNat_eq_toInt_emod (sext12 imm)]
  exact Int.add_emod_emod _ _ _

/-- Settles O15: bit 30 clear selects ADD, which writes the difference or, under the switch, the sum back. -/
theorem addSubtractsUnlessSwitched : Obligations.AddSubtractsUnlessSwitched :=
  ⟨fun _ h => decode_add h, fun rd _ _ s => writeBack_result rd _ s⟩

/-- Settles O26: funct3 100 selects LBU, which is the narrow load of its effective address. -/
theorem lbuReadsOneByteZeroExtended : Obligations.LbuReadsOneByteZeroExtended :=
  ⟨fun _ h => decode_of_funct3Mask h decode_opLoad decodeLoad_lbu,
    fun rd _ _ _ => ⟨loadNarrow_result rd, loadNarrow_fault rd⟩⟩

/-- Settles O27: each of the six funct3 values selects its row, and each row is the narrow load. -/
theorem otherLoadsReadOneByte : Obligations.OtherLoadsReadOneByte := by
  refine ⟨fun _ h => decode_of_funct3Mask h decode_opLoad decodeLoad_lbEncoding,
    fun _ h => decode_of_funct3Mask h decode_opLoad decodeLoad_lhEncoding,
    fun _ h => decode_of_funct3Mask h decode_opLoad decodeLoad_loadFunct3_011,
    fun _ h => decode_of_funct3Mask h decode_opLoad decodeLoad_lhuEncoding,
    fun _ h => decode_of_funct3Mask h decode_opLoad decodeLoad_loadFunct3_110,
    fun _ h => decode_of_funct3Mask h decode_opLoad decodeLoad_loadFunct3_111, fun rd rs1 imm s i hi => ?_⟩
  simp only [List.mem_cons, List.not_mem_nil, or_false] at hi
  obtain rfl | rfl | rfl | rfl | rfl | rfl := hi <;> exact ⟨loadNarrow_result rd, loadNarrow_fault rd⟩

/-- Settles O33: the opcode alone selects JALR, and its target reads rs1 in the state before the write. -/
theorem jalrLinksAndJumps : Obligations.JalrLinksAndJumps :=
  ⟨fun _ h => decode_opJalr (opcodeField_of_and7 h), execJalr_result⟩

end Sys2Proof.Proofs
end

