-- ==== Sys2Proof/Proofs/Cycle.lean ====
section
/-! PROOFS. One cycle, by the word at its pc: what it writes, where it goes next and when it faults (10_state.md section 2,
20_memory.md sections 1 to 3, 40_datapath.md section 4). -/

namespace Sys2Proof

/-- An opcode of format Unknown is none of the seven recognised ones (R54). -/
theorem not_mem_of_ofOpcode_unknown {op : BitVec 7} (h : Format.ofOpcode op = .Unknown) :
    op ∉ [0b0110011#7, 0b0010011#7, 0b0000011#7, 0b0100011#7, 0b1100011#7, 0b1100111#7, 0b0110111#7] := by
  intro hmem
  simp only [List.mem_cons, List.not_mem_nil, or_false] at hmem
  obtain rfl | rfl | rfl | rfl | rfl | rfl | rfl := hmem <;> cases h

end Sys2Proof

namespace Sys2Proof.Machine

open Sys2Proof.Safety

/-! ### A cycle with a next state, by the word it executes -/

/-- The state a word leads to, by its opcode: a register written back, a store, a branch, a jump and link, or nothing but
the advance of the pc (R83, R84). -/
inductive WordEffect (w : Word) (s : State) : State → Prop
  | register (v : Word) (hop : opcodeField w ∈ [0b0110011#7, 0b0010011#7, 0b0000011#7, 0b0110111#7]) :
      WordEffect w s ((s.setX (rdField w) v).setPc s.pcPlus4)
  | store (m : Memory) (hop : opcodeField w = 0b0100011#7)
      (haccess : (if funct3Field w = 0b010#3
        then s.storeWide (s.effectiveAddress (rs1Field w) (immSField w)) (s.x (rs2Field w))
        else s.storeNarrow (s.effectiveAddress (rs1Field w) (immSField w)) (s.x (rs2Field w))) = .ok m) :
      WordEffect w s ((s.setDmem m).setPc s.pcPlus4)
  | branch (hop : opcodeField w = 0b1100011#7) :
      WordEffect w s (s.setPc (s.branchTarget (rs1Field w) (rs2Field w) (immBField w)))
  | jump (hop : opcodeField w = 0b1100111#7) :
      WordEffect w s ((s.setX (rdField w) s.pcPlus4).setPc (s.effectiveAddress (rs1Field w) (immIField w)))
  | advance (hop : Format.ofOpcode (opcodeField w) = .Unknown) : WordEffect w s (s.setPc s.pcPlus4)

theorem loadInto_next {rd : RegIdx} {access : Except Fault Word} {s t : State} (h : loadInto rd access s = .next t) :
    ∃ v, t = (s.setX rd v).setPc s.pcPlus4 := by
  cases access with
  | error f => cases h
  | ok v => exact ⟨v, (Host.Outcome.next.inj h).symm⟩

theorem storeInto_next {access : Except Fault Memory} {s t : State} (h : storeInto access s = .next t) :
    ∃ m, access = .ok m ∧ t = (s.setDmem m).setPc s.pcPlus4 := by
  cases access with
  | error f => cases h
  | ok m => exact ⟨m, rfl, (Host.Outcome.next.inj h).symm⟩

theorem wordEffect_of_exec {w : Word} {s t : State} (h : exec (decode w) s = .next t) : WordEffect w s t := by
  obtain hop | hop | hop | hop | hop | hop | hop | hop := opcode_cases (opcodeField w)
  · rw [exec_decode_opR s hop] at h
    cases h
    exact .register _ (by simp [hop])
  · rw [exec_decode_opI s hop] at h
    cases h
    exact .register _ (by simp [hop])
  · rw [exec_decode_opLoad s hop] at h
    obtain ⟨v, rfl⟩ := loadInto_next h
    exact .register v (by simp [hop])
  · rw [exec_decode_opStore s hop] at h
    obtain ⟨m, haccess, rfl⟩ := storeInto_next h
    exact .store m hop haccess
  · rw [exec_decode_opBranch s hop] at h
    cases h
    exact .branch hop
  · rw [exec_decode_opJalr s hop] at h
    cases h
    exact .jump hop
  · rw [exec_decode_opLui s hop] at h
    cases h
    exact .register _ (by simp [hop])
  · rw [exec_decode_unknown s hop] at h
    cases h
    exact .advance hop

theorem wordEffect_of_step {s t : State} (h : step s = .next t) :
    WordEffect (instructionWordAt s s.pc.toNat) s t := by
  obtain ⟨-, -, hexec⟩ := step_next h
  exact wordEffect_of_exec hexec

section Effect

variable {w : Word} {s t : State} (h : WordEffect w s t)
include h

theorem WordEffect.x_of_ne_rdField {i : RegIdx} (hi : i ≠ rdField w) : t.x i = s.x i := by
  cases h with
  | register | jump =>
    by_cases hzero : i = 0#5
    · simp [hzero]
    · simp [State.setX_x, hzero, hi]
  | store | branch | advance => rfl

/-- An opcode without regWrite changes no register (R62). -/
theorem WordEffect.registersKept
    (hop : opcodeField w ∉ [0b0110011#7, 0b0010011#7, 0b0000011#7, 0b1100111#7, 0b0110111#7]) : RegistersKept s t := by
  cases h with
  | register v hregister =>
    refine absurd ?_ hop
    simp only [List.mem_cons] at hregister ⊢
    tauto
  | jump hjump => exact absurd (by simp [hjump]) hop
  | store | branch | advance => exact fun _ => rfl

/-- Only the store opcode changes data memory (R62). -/
theorem WordEffect.dmem_eq (hop : opcodeField w ≠ 0b0100011#7) : t.dmem = s.dmem := by
  cases h with
  | store m hstore _ => exact absurd hstore hop
  | register | branch | jump | advance => rfl

/-- The next pc (R22, R81). -/
theorem WordEffect.pc_eq : t.pc =
    if opcodeField w = 0b1100011#7 ∧ s.x (rs1Field w) ≠ s.x (rs2Field w) then s.pc + (immBField w).signExtend 32
    else if opcodeField w = 0b1100111#7 then s.x (rs1Field w) + (immIField w).signExtend 32
    else s.pc + 4#32 := by
  have past : opcodeField w ≠ 0b1100011#7 → opcodeField w ≠ 0b1100111#7 → s.pcPlus4 =
      if opcodeField w = 0b1100011#7 ∧ s.x (rs1Field w) ≠ s.x (rs2Field w) then s.pc + (immBField w).signExtend 32
      else if opcodeField w = 0b1100111#7 then s.x (rs1Field w) + (immIField w).signExtend 32
      else s.pc + 4#32 := by
    intro hbranch hjump
    rw [if_neg (fun h => hbranch h.1), if_neg hjump, State.pcPlus4]
  cases h with
  | register v hop => exact past (by rintro h; simp [h] at hop) (by rintro h; simp [h] at hop)
  | store m hop _ => exact past (by simp [hop]) (by simp [hop])
  | branch hop => simp [hop, branchTarget_eq]
  | jump hop => simp [hop, State.effectiveAddress, sext12]
  | advance hop =>
    have hnone := not_mem_of_ofOpcode_unknown hop
    exact past (by rintro h; simp [h] at hnone) (by rintro h; simp [h] at hnone)

end Effect

/-! ### The bytes a cycle stores -/

section Stored

variable {s : State}

theorem storedBytes_of_ne_store (hop : opcodeField (instructionWordAt s s.pc.toNat) ≠ 0b0100011#7) :
    storedBytes s = [] := if_neg hop

theorem storedBytes_wide (hop : opcodeField (instructionWordAt s s.pc.toNat) = 0b0100011#7)
    (hf : funct3Field (instructionWordAt s s.pc.toNat) = 0b010#3) {ea : Word} {v : Word}
    (hea : ea = s.effectiveAddress (rs1Field (instructionWordAt s s.pc.toNat)) (immSField (instructionWordAt s s.pc.toNat)))
    (hv : v = s.x (rs2Field (instructionWordAt s s.pc.toNat))) :
    storedBytes s = [(ea.toNat + 3, v.extractLsb' 24 8), (ea.toNat + 2, v.extractLsb' 16 8),
      (ea.toNat + 1, v.extractLsb' 8 8), (ea.toNat, v.extractLsb' 0 8)] := by
  subst hea hv
  exact (if_pos hop).trans (if_pos hf)

theorem storedBytes_narrow (hop : opcodeField (instructionWordAt s s.pc.toNat) = 0b0100011#7)
    (hf : funct3Field (instructionWordAt s s.pc.toNat) ≠ 0b010#3) {ea : Word} {v : Word}
    (hea : ea = s.effectiveAddress (rs1Field (instructionWordAt s s.pc.toNat)) (immSField (instructionWordAt s s.pc.toNat)))
    (hv : v = s.x (rs2Field (instructionWordAt s s.pc.toNat))) :
    storedBytes s = [(ea.toNat + 1, v.extractLsb' 8 8), (ea.toNat, v.extractLsb' 0 8)] := by
  subst hea hv
  exact (if_pos hop).trans (if_neg hf)

/-- After a cycle, each byte of data memory is the one the cycle stored there, if any (R35, R37). -/
theorem step_dmem_read {t : State} (hm : s.dmem.wf = true) (h : step s = .next t) (a : Nat) :
    t.dmem.read a = lastStored (storedBytes s) a (s.dmem.read a) := by
  by_cases hop : opcodeField (instructionWordAt s s.pc.toNat) = 0b0100011#7
  · cases wordEffect_of_step h with
    | store m _ haccess =>
      by_cases hf : funct3Field (instructionWordAt s s.pc.toNat) = 0b010#3
      · rw [if_pos hf] at haccess
        obtain ⟨-, rfl⟩ := storeWide_inv haccess
        rw [storedBytes_wide hop hf rfl rfl, State.setPc_dmem, State.setDmem_dmem, Memory.read_writeWord hm]
        simp only [lastStored, eq_comm]
      · rw [if_neg hf] at haccess
        obtain ⟨-, rfl⟩ := storeNarrow_inv haccess
        rw [storedBytes_narrow hop hf rfl rfl, State.setPc_dmem, State.setDmem_dmem, Memory.read_writeHalf hm]
        simp only [lastStored, eq_comm]
    | register v hregister => simp [hop] at hregister
    | branch hbranch => simp [hop] at hbranch
    | jump hjump => simp [hop] at hjump
    | advance hnone => simp [hop, Format.ofOpcode] at hnone
  · rw [storedBytes_of_ne_store hop, (wordEffect_of_step h).dmem_eq hop, lastStored]

/-- No byte outside the access of the store opcode is stored. -/
theorem lastStored_storedBytes_outside (hop : opcodeField (instructionWordAt s s.pc.toNat) = 0b0100011#7) {a : Nat}
    {ea : Word}
    (hea : ea = s.effectiveAddress (rs1Field (instructionWordAt s s.pc.toNat)) (immSField (instructionWordAt s s.pc.toNat)))
    (ha : a < ea.toNat ∨
      ea.toNat + (if funct3Field (instructionWordAt s s.pc.toNat) = 0b010#3 then 4 else 2) ≤ a) (old : Byte) :
    lastStored (storedBytes s) a old = old := by
  by_cases hf : funct3Field (instructionWordAt s s.pc.toNat) = 0b010#3
  · rw [if_pos hf] at ha
    rw [storedBytes_wide hop hf hea rfl, lastStored, if_neg (by omega), lastStored, if_neg (by omega), lastStored,
      if_neg (by omega), lastStored, if_neg (by omega), lastStored]
  · rw [if_neg hf] at ha
    rw [storedBytes_narrow hop hf hea rfl, lastStored, if_neg (by omega), lastStored, if_neg (by omega), lastStored]

end Stored

/-! ### When a cycle faults, and when it does not (R40, D17) -/

theorem step_not_refused (s : State) (r : Refusal) : step s ≠ .refused r := by
  cases hmark : s.faultMark with
  | some f =>
    rw [step_marked hmark]
    exact nofun
  | none =>
    rcases Nat.lt_or_ge s.config.imemSize (s.pc.toNat + 4) with hout | hin
    · rw [step_fetchFault hmark hout]
      exact nofun
    · rw [step_eq hmark hin]
      exact exec_not_refused _ s r

section Access

variable {w ea : Word} {n : Nat} {s : State}

theorem exec_decode_load_fault (hop : opcodeField w = 0b0000011#7)
    (hea : ea = s.effectiveAddress (rs1Field w) (immIField w)) (hn : n = if funct3Field w = 0b010#3 then 4 else 1)
    (hout : s.config.dmemSize < ea.toNat + n) : exec (decode w) s = .fault (.dataOutOfRange ea n) := by
  rw [exec_decode_opLoad s hop, ← hea]
  by_cases hf : funct3Field w = 0b010#3
  · rw [if_pos hf] at hn ⊢
    subst hn
    exact loadWide_fault _ hout
  · rw [if_neg hf] at hn ⊢
    subst hn
    exact loadNarrow_fault _ hout

theorem exec_decode_store_fault (hop : opcodeField w = 0b0100011#7)
    (hea : ea = s.effectiveAddress (rs1Field w) (immSField w)) (hn : n = if funct3Field w = 0b010#3 then 4 else 2)
    (hout : s.config.dmemSize < ea.toNat + n) : exec (decode w) s = .fault (.dataOutOfRange ea n) := by
  rw [exec_decode_opStore s hop, ← hea]
  by_cases hf : funct3Field w = 0b010#3
  · rw [if_pos hf] at hn ⊢
    subst hn
    exact storeWide_fault hout
  · rw [if_neg hf] at hn ⊢
    subst hn
    exact storeNarrow_fault hout

theorem exec_decode_load_next (hop : opcodeField w = 0b0000011#7)
    (hea : ea = s.effectiveAddress (rs1Field w) (immIField w)) (hn : n = if funct3Field w = 0b010#3 then 4 else 1)
    (hin : ea.toNat + n ≤ s.config.dmemSize) : ∃ t, exec (decode w) s = .next t := by
  rw [exec_decode_opLoad s hop, ← hea]
  by_cases hf : funct3Field w = 0b010#3
  · rw [if_pos hf] at hn
    subst hn
    rw [if_pos hf, loadWide_ok hin]
    exact ⟨_, rfl⟩
  · rw [if_neg hf] at hn
    subst hn
    rw [if_neg hf, loadNarrow_ok hin]
    exact ⟨_, rfl⟩

theorem exec_decode_store_next (hop : opcodeField w = 0b0100011#7)
    (hea : ea = s.effectiveAddress (rs1Field w) (immSField w)) (hn : n = if funct3Field w = 0b010#3 then 4 else 2)
    (hin : ea.toNat + n ≤ s.config.dmemSize) : ∃ t, exec (decode w) s = .next t := by
  rw [exec_decode_opStore s hop, ← hea]
  by_cases hf : funct3Field w = 0b010#3
  · rw [if_pos hf] at hn
    subst hn
    rw [if_pos hf, storeWide_ok hin]
    exact ⟨_, rfl⟩
  · rw [if_neg hf] at hn
    subst hn
    rw [if_neg hf, storeNarrow_ok hin]
    exact ⟨_, rfl⟩

/-- A word that reaches no data memory completes. -/
theorem exec_decode_other_next (hload : opcodeField w ≠ 0b0000011#7) (hstore : opcodeField w ≠ 0b0100011#7) :
    ∃ t, exec (decode w) s = .next t := by
  obtain hop | hop | hop | hop | hop | hop | hop | hop := opcode_cases (opcodeField w)
  · exact ⟨_, exec_decode_opR s hop⟩
  · exact ⟨_, exec_decode_opI s hop⟩
  · exact absurd hop hload
  · exact absurd hop hstore
  · exact ⟨_, exec_decode_opBranch s hop⟩
  · exact ⟨_, exec_decode_opJalr s hop⟩
  · exact ⟨_, exec_decode_opLui s hop⟩
  · exact ⟨_, exec_decode_unknown s hop⟩

end Access

/-! ### A word placed at the pc (R125) -/

section Placed

variable {s : State} (w : Word) (hroom : s.pc.toNat + 4 ≤ s.config.imemSize)
include hroom

theorem placeWord_eq : placeWord s w =
    { s with imem := s.imem.writeBytes s.pc.toNat (bytesOfWord w), imageLen := max s.imageLen (s.pc.toNat + 4) } :=
  if_pos hroom

/-- The placed word is the one fetched next. -/
theorem instructionWordAt_placeWord (hm : s.imem.wf = true) : instructionWordAt (placeWord s w) s.pc.toNat = w := by
  refine Eq.trans ?_ (wordOfBytes_bytes w)
  simp [placeWord_eq w hroom, instructionWordAt, wordOfBytes, Memory.read_writeBytes hm, bytesOfWord]

theorem step_placeWord (hm : s.imem.wf = true) (hmark : s.faultMark = none) :
    step (placeWord s w) = exec (decode w) (placeWord s w) := by
  have hplaced := placeWord_eq w hroom
  have hpc : (placeWord s w).pc = s.pc := by rw [hplaced]
  rw [step_eq (by rwa [hplaced]) (by rwa [hplaced]), hpc, instructionWordAt_placeWord w hroom hm]

end Placed

end Sys2Proof.Machine

namespace Sys2Proof.Proofs

open Sys2Proof.Machine

/-- Settles O9: a clear mark and a fetch inside instruction memory leave exec alone. -/
theorem stepRunsTheDecodedInstruction : Obligations.StepRunsTheDecodedInstruction := by
  intro i s hmark hfetch hdecode
  rw [step_eq hmark hfetch, hdecode]

/-- Settles O11: the fetch faults, and step answers its fault. -/
theorem fetchOutsideFaultsBeforeDecode : Obligations.FetchOutsideFaultsBeforeDecode :=
  fun _ => step_fetchFault

/-- Settles O12: the table word is placed and fetched whole, and `placeWord` writes two fields. -/
theorem placedWordIsTheNextInstruction : Obligations.PlacedWordIsTheNextInstruction := by
  intro s nbits w hbits hmark hcanonical hroom
  refine ⟨_, decodeTableWord_eq hbits w, step_placeWord _ hroom hcanonical hmark, ?_⟩
  rw [State.withFetchWord, placeWord_eq _ hroom]
  exact ⟨rfl, rfl, rfl, rfl, hmark⟩

/-- Settles O42: the effect of the word at the pc leaves the other registers, and the cycle stores only the bytes of its
access. -/
theorem atMostOneWritePerCycle : Obligations.AtMostOneWritePerCycle := by
  intro s t hcanonical hstep
  have heffect := wordEffect_of_step hstep
  refine ⟨fun i => heffect.x_of_ne_rdField, heffect.registersKept, fun hop a => ?_, fun hop a ha => ?_⟩
  · rw [heffect.dmem_eq hop]
  · rw [step_dmem_read hcanonical hstep, lastStored_storedBytes_outside hop rfl ha]

/-- Settles O43: the next pc is that of the effect of the word at the pc. -/
theorem nextPcIsOneOfThree : Obligations.NextPcIsOneOfThree :=
  fun _ _ hstep => (wordEffect_of_step hstep).pc_eq

/-- Settles O44: a fetched word is executed, and its opcode and the range of its access decide the outcome. -/
theorem stepStopsOnlyByModelFaults : Obligations.StepStopsOnlyByModelFaults := by
  refine ⟨step_not_refused, fun s hmark hfetch w ea n hw => ?_⟩
  rw [step_eq hmark hfetch, ← hw]
  exact ⟨exec_decode_load_fault, exec_decode_store_fault, exec_decode_load_next, exec_decode_store_next,
    exec_decode_other_next⟩

end Sys2Proof.Proofs
end

