-- ==== Sys2Proof/Proofs/Invariant.lean ====
section
/-! PROOFS. What every cycle keeps: the invariant from construction on, and instruction memory with the parameters of the
run (10_state.md, 20_memory.md sections 3 to 5, 70_reset_and_hazards.md sections 1 and 2). -/

namespace Sys2Proof.Machine

open Sys2Proof.Safety

/-! ### The invariant under each update -/

section Update

variable {s : State} (h : Inv s)
include h

theorem inv_setPc (target : Word) : Inv (s.setPc target) :=
  ⟨h.configLegal, h.imageFits, h.zeroRegister, h.dmemCanonical, h.dmemInside, h.imemCanonical, h.imemInside⟩

theorem inv_setX (i : RegIdx) (v : Word) : Inv (s.setX i v) :=
  ⟨h.configLegal, h.imageFits, (s.setX_regs_zero i v).trans h.zeroRegister, h.dmemCanonical, h.dmemInside,
    h.imemCanonical, h.imemInside⟩

theorem inv_setDmem {m : Memory} (hcanonical : m.wf = true) (hinside : m.below s.config.dmemSize = true) :
    Inv (s.setDmem m) :=
  ⟨h.configLegal, h.imageFits, h.zeroRegister, hcanonical, hinside, h.imemCanonical, h.imemInside⟩

theorem inv_storeWide {ea v : Word} {m : Memory} (haccess : s.storeWide ea v = .ok m) : Inv (s.setDmem m) := by
  obtain ⟨hin, rfl⟩ := storeWide_inv haccess
  exact inv_setDmem h (Memory.writeWord_wf h.dmemCanonical _ _) (Memory.writeWord_below h.dmemInside hin _)

theorem inv_storeNarrow {ea v : Word} {m : Memory} (haccess : s.storeNarrow ea v = .ok m) : Inv (s.setDmem m) := by
  obtain ⟨hin, rfl⟩ := storeNarrow_inv haccess
  exact inv_setDmem h (Memory.writeHalf_wf h.dmemCanonical _ _) (Memory.writeHalf_below h.dmemInside hin _)

theorem inv_step {t : State} (hstep : step s = .next t) : Inv t := by
  obtain ⟨-, -, hexec⟩ := step_next hstep
  obtain ⟨rd, v, rfl⟩ | ⟨ea, v, m, hwide | hnarrow, rfl⟩ | ⟨target, rfl⟩ | ⟨rd, target, rfl⟩ := exec_next hexec
  · exact inv_setPc (inv_setX h rd v) _
  · exact inv_setPc (inv_storeWide h hwide) _
  · exact inv_setPc (inv_storeNarrow h hnarrow) _
  · exact inv_setPc h target
  · exact inv_setPc (inv_setX h rd _) target

end Update

/-! ### The constructed machine (R123 to R125) -/

section Constructed

variable {config : Config} {image : List Byte}

theorem inv_constructed (hlegal : config.wf = true) (hfits : image.length ≤ config.imemSize) :
    Inv (constructed config image) :=
  ⟨hlegal, hfits, rfl, rfl, rfl, Memory.writeBytes_wf rfl 0 image, Memory.writeBytes_below rfl (Nat.zero_add _).le⟩

/-- Instruction memory is the image, and 0 past it (D2, D20). -/
theorem read_imem_constructed (a : Nat) : (constructed config image).imem.read a = (image[a]?).getD 0#8 := by
  rw [constructed, Memory.read_writeBytes rfl, if_pos (Nat.zero_le a)]
  rfl

theorem construct_eq_none (hlong : config.imemSize < image.length) : construct config image = none :=
  if_neg (Nat.not_le.mpr hlong)

end Constructed

/-! ### Runs (R48) -/

theorem reaches_runParametersKept {s t : State} (h : Reaches s t) : RunParametersKept s t := by
  induction h with
  | refl => exact ⟨rfl, rfl, rfl, rfl⟩
  | tail _ hstep ih =>
    obtain ⟨hconfig, himem, hlen, hmark⟩ := ih
    obtain ⟨hconfig', himem', hlen', hmark'⟩ := step_runParametersKept hstep
    exact ⟨hconfig'.trans hconfig, himem'.trans himem, hlen'.trans hlen, hmark'.trans hmark⟩

end Sys2Proof.Machine

namespace Sys2Proof.Proofs

open Sys2Proof.Machine Sys2Proof.Safety

/-- Settles O37: each of the four ways a cycle answers a next state is made of updates that keep the invariant. -/
theorem invariantKeptByStep : Obligations.InvariantKeptByStep :=
  fun _ _ hinv hstep => inv_step hinv hstep

/-- Settles O38: the reset state is the machine constructed with no image under the default configuration. -/
theorem invariantAtReset : Obligations.InvariantAtReset :=
  inv_constructed (config := Config.default) (image := []) rfl (Nat.zero_le _)

/-- Settles O39: an image that fits gives the constructed machine, whose fields are those of reset but for the image. -/
theorem constructionGivesTheResetState : Obligations.ConstructionGivesTheResetState := by
  intro config image hlegal
  refine ⟨construct_eq_none, fun hfits => ⟨constructed config image, construct_eq_some_iff.mpr ⟨hfits, rfl⟩,
    inv_constructed hlegal hfits, State.x_of_regs_eq_zero rfl, rfl, fun _ => rfl, read_imem_constructed, rfl, rfl, rfl⟩⟩

/-- Settles O41: a run keeps instruction memory, and construction fills it with the image. -/
theorem instructionMemoryIsTheImage : Obligations.InstructionMemoryIsTheImage := by
  refine ⟨fun _ _ => reaches_runParametersKept, fun config image s t hconstruct hreach => ?_⟩
  obtain ⟨-, rfl⟩ := construct_eq_some_iff.mp hconstruct
  obtain ⟨hconfig, himem, -, hmark⟩ := reaches_runParametersKept hreach
  have hread : ∀ a, t.imem.read a = (image[a]?).getD 0#8 := by
    intro a
    rw [himem, read_imem_constructed]
  refine ⟨hread, fun hfetch => ?_⟩
  rw [step_eq hmark (by rw [hconfig]; exact hfetch), instructionWordAt]
  simp only [hread]

end Sys2Proof.Proofs
end

