-- ==== Sys2Proof/Proofs/DataMemory.lean ====
section
/-! PROOFS. What is read back from data memory: after one store at every width, and along a run (20_memory.md sections 2
and 5). -/

namespace Sys2Proof.Machine

open Sys2Proof.Safety

/-! ### One store read back -/

/-- After a load into a register other than x0, that register reads what was loaded. -/
theorem registerResult_x_rd {s t : State} {rd : RegIdx} {v : Word} (h : RegisterResult s t rd v) (hrd : rd ≠ 0#5) :
    t.x rd = v := by
  obtain ⟨hx, -⟩ := h
  rw [hx rd, if_neg hrd, if_pos rfl]

/-- The high half of one word over the low half of another, byte by byte. -/
theorem halves_eq_bytes (v w : Word) :
    v.extractLsb' 24 8 ++ v.extractLsb' 16 8 ++ w.extractLsb' 8 8 ++ w.extractLsb' 0 8 =
      v.extractLsb' 16 16 ++ w.extractLsb' 0 16 := by
  apply BitVec.eq_of_getLsbD_eq
  intro i hi
  simp only [BitVec.getLsbD_append, BitVec.getLsbD_extractLsb']
  interval_cases i <;> simp

section Stored

variable {s t u : State} {ea v w : Word}

/-- A stored byte, at its place in the access. -/
theorem read_of_store {n : Nat} (h : DataMemoryAfterStore s t ea n v) {k : Nat} (hk : k < n) :
    t.dmem.read (ea.toNat + k) = v.extractLsb' (8 * k) 8 := h.1 k hk

theorem dataWordAt_of_store (h : DataMemoryAfterStore s t ea 4 v) : dataWordAt t ea.toNat = v := by
  have hlow : t.dmem.read ea.toNat = v.extractLsb' 0 8 := read_of_store h (by decide : 0 < 4)
  rw [dataWordAt, read_of_store h (by decide : 3 < 4), read_of_store h (by decide : 2 < 4),
    read_of_store h (by decide : 1 < 4), hlow]
  exact wordOfBytes_bytes v

/-- Two bytes stored over the low half of a stored word leave its high half (R35). -/
theorem dataWordAt_of_narrowStore (hwide : DataMemoryAfterStore s t ea 4 v) (hnarrow : DataMemoryAfterStore t u ea 2 w) :
    dataWordAt u ea.toNat = v.extractLsb' 16 16 ++ w.extractLsb' 0 16 := by
  obtain ⟨hbytes, hrest⟩ := hnarrow
  have hlow : u.dmem.read ea.toNat = w.extractLsb' 0 8 := hbytes 0 (by decide)
  rw [dataWordAt, hrest _ (.inr (by omega)), hrest _ (.inr (by omega)), read_of_store hwide (by decide : 3 < 4),
    read_of_store hwide (by decide : 2 < 4), hbytes 1 (by decide), hlow]
  exact halves_eq_bytes v w

/-- A wide store keeps the canonical form. -/
theorem dmem_wf_of_storeWide (hm : s.dmem.wf = true) (h : storeInto (s.storeWide ea v) s = .next t) :
    t.dmem.wf = true := by
  obtain ⟨m, haccess, rfl⟩ := storeInto_next h
  obtain ⟨-, rfl⟩ := storeWide_inv haccess
  exact Memory.writeWord_wf hm _ _

end Stored

/-! ### Runs -/

theorem lastStored_append (new old : List Host.Cell) (a : Nat) (b : Byte) :
    lastStored (new ++ old) a b = lastStored new a (lastStored old a b) := by
  induction new with
  | nil => rfl
  | cons c new ih =>
    obtain ⟨k, v⟩ := c
    simp only [List.cons_append, lastStored, ih]

theorem storeTrace_dmem_wf {s t : State} {log : List Host.Cell} (hm : s.dmem.wf = true) (h : StoreTrace s log t) :
    t.dmem.wf = true := by
  induction h with
  | refl => exact hm
  | tail _ hstep ih => exact step_dmem_wf ih hstep

/-- Along a run each byte of data memory is the latest one stored there (R37). -/
theorem storeTrace_dmem_read {s t : State} {log : List Host.Cell} (hm : s.dmem.wf = true) (h : StoreTrace s log t)
    (a : Nat) : t.dmem.read a = lastStored log a (s.dmem.read a) := by
  induction h with
  | refl => rfl
  | tail htrace hstep ih => rw [step_dmem_read (storeTrace_dmem_wf hm htrace) hstep, ih, lastStored_append]

end Sys2Proof.Machine

namespace Sys2Proof.Proofs

open Sys2Proof.Machine Sys2Proof.Safety

/-- Settles O45: the three loads of the stored bytes, the last of them after two are replaced. -/
theorem storedValueReadsBackAtEveryWidth : Obligations.StoredValueReadsBackAtEveryWidth := by
  intro s rs2 rs1 imm hcanonical hin
  obtain ⟨t, ht, -, -, hstored, hconfig, -⟩ := storeWide_result hcanonical (v := s.x rs2) hin
  rw [← hconfig] at hin
  refine ⟨t, ht, fun rd b d hrd hea => ?lw, fun rd b d k hrd hk hea => ?lbu, fun r b rd c d e hrd hea hea' => ?sh⟩
  case lw =>
    obtain ⟨u, hu, hresult⟩ := loadWide_result (s := t) rd (hea ▸ hin)
    exact ⟨u, hu, by rw [registerResult_x_rd hresult hrd, hea, dataWordAt_of_store hstored]⟩
  case lbu =>
    obtain ⟨u, hu, hresult⟩ := loadNarrow_result (s := t) rd (ea := t.effectiveAddress b d) (by omega)
    exact ⟨u, hu, by rw [registerResult_x_rd hresult hrd, hea, read_of_store hstored hk]⟩
  case sh =>
    obtain ⟨u, hu, hkept, -, hreplaced, hconfig', -⟩ := storeNarrow_result (dmem_wf_of_storeWide hcanonical ht)
      (ea := t.effectiveAddress b d) (v := t.x r) (by rw [hea]; omega)
    have hea'' : u.effectiveAddress c e = s.effectiveAddress rs1 imm := by
      rw [← hea', State.effectiveAddress, hkept, State.effectiveAddress]
    rw [← hconfig', ← hea''] at hin
    obtain ⟨v, hv, hresult⟩ := loadWide_result rd hin
    rw [hea] at hreplaced
    exact ⟨u, v, hu, hv, by rw [registerResult_x_rd hresult hrd, hea'', dataWordAt_of_narrowStore hstored hreplaced]⟩

/-- Settles O46: by induction along the run, and the loads read data memory byte by byte. -/
theorem loadsSeeTheLatestStore : Obligations.LoadsSeeTheLatestStore := by
  intro s t log hcanonical htrace
  have hread := storeTrace_dmem_read hcanonical htrace
  refine ⟨hread, fun rd rs1 imm a ha => ⟨fun hin => ?_, fun hin i hi => ?_⟩⟩
  · subst ha
    obtain ⟨u, hu, hregisters, -⟩ := loadWide_result rd hin
    simp only [dataWordAt, hread] at hregisters
    exact ⟨u, hu, hregisters⟩
  · subst ha
    obtain ⟨u, hu, hregisters, -⟩ := loadNarrow_result rd hin
    rw [hread] at hregisters
    simp only [List.mem_cons, List.not_mem_nil, or_false] at hi
    obtain rfl | rfl | rfl | rfl | rfl | rfl | rfl := hi <;> exact ⟨u, hu, hregisters⟩

end Sys2Proof.Proofs
end

