-- ==== Sys2Proof/Proofs/Runs.lean ====
section
/-! PROOFS. The halt test and the run: one equation for each answer of the halt test, and what a run that ends says
(60_exceptions.md sections 1 and 3, 70_reset_and_hazards.md section 3). -/

namespace Sys2Proof.Machine

open Sys2Proof.Safety

/-! ### The halt test (D12) -/

section HaltTest

variable {s : State}

theorem haltTest_past (h : s.imageLen ≤ s.pc.toNat) : haltTest s = .halted := if_pos h

theorem haltTest_fetchFault (hpc : s.pc.toNat < s.imageLen) (h : s.config.imemSize < s.pc.toNat + 4) :
    haltTest s = .faulted (.fetchOutOfRange s.pc) := by
  rw [haltTest, if_neg (by omega), fetchWord_error h]

theorem haltTest_fetched (hpc : s.pc.toNat < s.imageLen) (h : s.pc.toNat + 4 ≤ s.config.imemSize) :
    haltTest s = if opcodeField (instructionWordAt s s.pc.toNat) = 0#7 then .halted else .running := by
  rw [haltTest, if_neg (by omega), fetchWord_ok h]

/-- The opcode lies in the low seven bits of the first byte alone. -/
theorem opcodeField_instructionWordAt (s : State) (a : Nat) :
    opcodeField (instructionWordAt s a) = (s.imem.read a).extractLsb' 0 7 := by
  apply BitVec.eq_of_getLsbD_eq
  intro i hi
  simp only [opcodeField, instructionWordAt, BitVec.getLsbD_extractLsb', BitVec.getLsbD_append]
  simp [show i < 8 by omega]

/-- A byte whose low seven bits are 0, by mask and by field. -/
theorem and_lowBits_eq_zero_iff (b : Byte) : b &&& 0x7F#8 = 0#8 ↔ b.extractLsb' 0 7 = 0#7 := by
  revert b
  decide

end HaltTest

/-! ### The run, by what the halt test and the cycle answer (R127) -/

section Run

variable {s t : State} {f : Fault}

theorem run_marked (hmark : s.faultMark = some f) (fuel : Nat) : run fuel s = .faulted s := by
  rw [run.eq_def, hmark]
  rfl

theorem run_halted (hmark : s.faultMark = none) (h : haltTest s = .halted) (fuel : Nat) : run fuel s = .final s := by
  rw [run.eq_def, hmark, h]
  rfl

theorem run_haltFault (hmark : s.faultMark = none) (h : haltTest s = .faulted f) (fuel : Nat) :
    run fuel s = .faulted (s.withFaultMark f) := by
  rw [run.eq_def, hmark, h]
  rfl

theorem run_zero (hmark : s.faultMark = none) (h : haltTest s = .running) : run 0 s = .unfinished s := by
  rw [run, hmark, h]
  rfl

theorem run_next (hmark : s.faultMark = none) (h : haltTest s = .running) (hstep : step s = .next t) (fuel : Nat) :
    run (fuel + 1) s = run fuel t := by
  rw [run, hmark, h, hstep]
  rfl

theorem run_stepFault (hmark : s.faultMark = none) (h : haltTest s = .running) (hstep : step s = .fault f) (fuel : Nat) :
    run (fuel + 1) s = .faulted (s.withFaultMark f) := by
  rw [run, hmark, h, hstep]
  rfl

end Run

/-- Induction along a run: one case for each way it ends or goes on (R110, R127). -/
theorem run_induction {P : Nat → State → RunResult → Prop}
    (marked : ∀ {fuel s f}, s.faultMark = some f → P fuel s (.faulted s))
    (halted : ∀ {fuel s}, s.faultMark = none → haltTest s = .halted → P fuel s (.final s))
    (haltFault : ∀ {fuel s f}, s.faultMark = none → haltTest s = .faulted f → P fuel s (.faulted (s.withFaultMark f)))
    (zero : ∀ {s}, s.faultMark = none → haltTest s = .running → P 0 s (.unfinished s))
    (stepFault : ∀ {fuel s f}, s.faultMark = none → haltTest s = .running → step s = .fault f →
      P (fuel + 1) s (.faulted (s.withFaultMark f)))
    (next : ∀ {fuel s t}, s.faultMark = none → haltTest s = .running → step s = .next t → P fuel t (run fuel t) →
      P (fuel + 1) s (run fuel t))
    (fuel : Nat) (s : State) : P fuel s (run fuel s) := by
  fun_induction run fuel s with
  | case1 fuel s hmark =>
    obtain ⟨f, hf⟩ := Option.isSome_iff_exists.mp hmark
    exact marked hf
  | case2 fuel s hmark hhalt => exact halted (Option.not_isSome_iff_eq_none.mp hmark) hhalt
  | case3 fuel s hmark f hhalt => exact haltFault (Option.not_isSome_iff_eq_none.mp hmark) hhalt
  | case4 s hmark hhalt => exact zero (Option.not_isSome_iff_eq_none.mp hmark) hhalt
  | case5 s hmark hhalt fuel t hstep ih => exact next (Option.not_isSome_iff_eq_none.mp hmark) hhalt hstep ih
  | case6 s hmark hhalt fuel f hstep => exact stepFault (Option.not_isSome_iff_eq_none.mp hmark) hhalt hstep
  | case7 s hmark hhalt fuel r hstep => exact absurd hstep (step_not_refused s r)

/-- Where a normal end can be. -/
theorem run_final (fuel : Nat) (s : State) :
    ∀ t, run fuel s = .final t → Reaches s t ∧ haltTest t = .halted ∧ t.faultMark = none := by
  refine run_induction (P := fun _ s r => ∀ t, r = .final t → Reaches s t ∧ haltTest t = .halted ∧ t.faultMark = none)
    ?marked ?halted ?haltFault ?zero ?stepFault ?next fuel s
  case halted =>
    rintro _ s hmark hhalt t ⟨⟩
    exact ⟨.refl, hhalt, hmark⟩
  case next =>
    intro _ s u _ _ hstep ih t ht
    obtain ⟨hreach, hend⟩ := ih t ht
    exact ⟨reaches_head hstep hreach, hend⟩
  all_goals intros; contradiction

/-- What a faulted end is: the state before the fault, with the mark set (R110, R113). -/
theorem run_faulted (fuel : Nat) (s : State) : s.faultMark = none → ∀ t, run fuel s = .faulted t →
    ∃ u f, Reaches s u ∧ u.faultMark = none ∧ (step u = .fault f ∨ haltTest u = .faulted f) ∧ t = u.withFaultMark f := by
  refine run_induction (P := fun _ s r => s.faultMark = none → ∀ t, r = .faulted t →
    ∃ u f, Reaches s u ∧ u.faultMark = none ∧ (step u = .fault f ∨ haltTest u = .faulted f) ∧ t = u.withFaultMark f)
    ?marked ?halted ?haltFault ?zero ?stepFault ?next fuel s
  case marked =>
    intro _ s f hmark hclear
    rw [hclear] at hmark
    contradiction
  case haltFault =>
    rintro _ s f hmark hhalt - t ⟨⟩
    exact ⟨s, f, .refl, hmark, .inr hhalt, rfl⟩
  case stepFault =>
    rintro _ s f hmark _ hstep - t ⟨⟩
    exact ⟨s, f, .refl, hmark, .inl hstep, rfl⟩
  case next =>
    intro _ s v hmark _ hstep ih _ t ht
    obtain ⟨-, -, -, hkept⟩ := step_runParametersKept hstep
    obtain ⟨u, f, hreach, hend⟩ := ih (hkept.trans hmark) t ht
    exact ⟨u, f, reaches_head hstep hreach, hend⟩
  all_goals intros; contradiction

theorem run_not_refused (fuel : Nat) (s : State) : ∀ r, run fuel s ≠ .refused r := by
  refine run_induction (P := fun _ _ result => ∀ r, result ≠ .refused r)
    ?marked ?halted ?haltFault ?zero ?stepFault ?next fuel s
  case next => exact fun _ _ _ ih => ih
  all_goals intros; exact nofun

/-- Fuel beyond what a run ends with is not used. -/
theorem run_more_fuel (fuel : Nat) (s : State) :
    (∀ t, run fuel s ≠ .unfinished t) → ∀ more, fuel ≤ more → run more s = run fuel s := by
  refine run_induction (P := fun fuel s result => (∀ t, result ≠ .unfinished t) → ∀ more, fuel ≤ more →
    run more s = result) ?marked ?halted ?haltFault ?zero ?stepFault ?next fuel s
  case marked => exact fun hmark _ more _ => run_marked hmark more
  case halted => exact fun hmark hhalt _ more _ => run_halted hmark hhalt more
  case haltFault => exact fun hmark hhalt _ more _ => run_haltFault hmark hhalt more
  case zero =>
    intro s _ _ hended
    exact absurd rfl (hended s)
  case stepFault =>
    intro fuel s f hmark hhalt hstep _ more hmore
    obtain ⟨more, rfl⟩ := Nat.exists_eq_add_of_lt hmore
    exact run_stepFault hmark hhalt hstep _
  case next =>
    intro fuel s t hmark hhalt hstep ih hended more hmore
    obtain ⟨extra, rfl⟩ := Nat.exists_eq_add_of_lt hmore
    rw [run_next hmark hhalt hstep]
    exact ih hended _ (Nat.le_add_right fuel extra)

/-- `n` cycles of a run use `n` units of fuel. -/
theorem run_of_runsFor {n : Nat} {s t : State} (h : RunsFor s n t) (fuel : Nat) : run (n + fuel) s = run fuel t := by
  induction h generalizing fuel with
  | refl => rw [Nat.zero_add]
  | @tail n t u _ hhalt hstep ih =>
    obtain ⟨hmark, -, -⟩ := step_next hstep
    rw [Nat.add_assoc, Nat.add_comm 1 fuel, ih, run_next hmark hhalt hstep]

end Sys2Proof.Machine

namespace Sys2Proof.Proofs

open Sys2Proof.Machine

/-- Settles O47: step answers the mark first, and run looks at it first. -/
theorem faultedStateIsFinal : Obligations.FaultedStateIsFinal :=
  fun _ _ hmark => ⟨step_marked hmark, run_marked hmark⟩

/-- Settles O48: by whether the pc is past the image, and whether the fetch stays inside instruction memory. -/
theorem haltTestIsPcOrZeroOpcode : Obligations.HaltTestIsPcOrZeroOpcode := by
  intro s
  rcases Nat.lt_or_ge s.pc.toNat s.imageLen with hpc | hpast
  · rcases Nat.lt_or_ge s.config.imemSize (s.pc.toNat + 4) with hout | hin
    · rw [haltTest_fetchFault hpc hout]
      refine ⟨⟨nofun, by omega⟩, fun f => ?_⟩
      simp [hpc, hout, eq_comm]
    · rw [haltTest_fetched hpc hin, opcodeField_instructionWordAt, and_lowBits_eq_zero_iff]
      have hinside : ¬ s.config.imemSize < s.pc.toNat + 4 := by omega
      by_cases hzero : (s.imem.read s.pc.toNat).extractLsb' 0 7 = 0#7
      · simp [hzero, hin, hinside]
      · simp [hzero, hpc, hinside]
  · rw [haltTest_past hpast]
    exact ⟨⟨fun _ => .inl hpast, fun _ => rfl⟩, fun f => ⟨nofun, by omega⟩⟩

/-- Settles O49: the equations of the run, and the induction along it. -/
theorem runEndsOnlyAtAHaltedState : Obligations.RunEndsOnlyAtAHaltedState :=
  ⟨fun fuel _ hmark => ⟨fun hhalt => run_halted hmark hhalt fuel, fun _ hhalt => run_haltFault hmark hhalt fuel,
    fun _ hhalt hstep => run_next hmark hhalt hstep fuel, fun _ hhalt hstep => run_stepFault hmark hhalt hstep fuel,
    run_zero hmark⟩, run_final⟩

/-- Settles O50: by induction along the run. -/
theorem runFaultKeepsTheStateBefore : Obligations.RunFaultKeepsTheStateBefore :=
  fun fuel s t hmark => run_faulted fuel s hmark t

/-- Settles O51: by induction along the run. -/
theorem runEndIndependentOfFuel : Obligations.RunEndIndependentOfFuel :=
  fun s fuel more hmore => ⟨run_not_refused fuel s, fun hended => run_more_fuel fuel s hended more hmore⟩

/-- Settles O52: the path uses its own number of units, and what is left runs from its end. -/
theorem runCompletesWhenTheHaltTestIsReached : Obligations.RunCompletesWhenTheHaltTestIsReached := by
  intro n fuel s t hpath hmark
  refine ⟨fun hfuel hhalt => ?_, fun f hfuel hhalt => ?_, fun f hfuel hhalt hstep => ?_⟩
  · obtain ⟨rest, rfl⟩ := Nat.exists_eq_add_of_le hfuel
    rw [run_of_runsFor hpath, run_halted hmark hhalt]
  · obtain ⟨rest, rfl⟩ := Nat.exists_eq_add_of_le hfuel
    rw [run_of_runsFor hpath, run_haltFault hmark hhalt]
  · obtain ⟨rest, rfl⟩ := Nat.exists_eq_add_of_lt hfuel
    rw [Nat.add_assoc, run_of_runsFor hpath, run_stepFault hmark hhalt hstep]

end Sys2Proof.Proofs
end
